-- ==== Sys2Proof/Word.lean ====
section
/-! DEFINITION. The widths the manual treats as bits: timebase values (R1), frame bytes and two-byte
frame fields (chapter 10), and the bit sets of chapters 5, 7, 10 and 11. Quantities (W, mHz, µs,
counts) are natural numbers or integers, as "Conventions" of 00_scope.md sets them out. -/

namespace Sys2Proof

/-- A timebase value: a 32-bit count of microseconds that wraps (R1). -/
abbrev Time := BitVec 32

/-- One byte of a frame (chapter 10). -/
abbrev Byte := BitVec 8

/-- A two-byte frame field, high byte first (chapter 10). -/
abbrev Half := BitVec 16

/-- A four-byte frame field, high byte first (chapter 10). -/
abbrev Wide := BitVec 32

/-- A set of hamlet circuits, bit `k` for entry `k`, 0 to 13 (chapter 7). -/
abbrev AllowedSet := BitVec 14

/-- A selection among the six writable fields of an entry, bits as in section 10.2. -/
abbrev FieldMask := BitVec 6

/-- A set of notice kinds, bit `k` for kind `k` (section 10.5). -/
abbrev NoticeSet := BitVec 14

/-- A set of fault kinds, bit `k` for kind `k` (section 11.4). -/
abbrev FaultSet := BitVec 13

end Sys2Proof
end

