-- ==== Sys2Proof/Config.lean ====
section
/-! DEFINITION. What the manual leaves open. Each constant is opaque: nothing can be proved of its
value, so a claim that holds, holds whatever the device does there. -/

namespace Sys2Proof

/-- Which of the events waiting at one moment is taken next (00_scope.md, "Either order"; R36).
Applied to the model's counter of draws. DESIGN CHOICE, log 2. -/
opaque Config.freeOrder : Nat → Nat

/-- A response byte whose value the manual does not state, because the item it shows is absent.
Applied to the model's counter of draws and the byte's place in the field. DESIGN CHOICE, log 15. -/
opaque Config.unstatedByte : Nat → Nat → Byte

/-- The delay shown for a bank that is NOT FIRED, by the half-period of its set (R43 says that the
delay rule does not apply to it). DESIGN CHOICE, log 14. -/
opaque Config.notFiredDelay : Nat → Nat

/-- Whether a time left that is no whole number of milliseconds is shown rounded up
(R158 gives the unit and no rounding). DESIGN CHOICE, log 16. -/
opaque Config.timeLeftRoundsUp : Bool

/-- The bytes over which the Settings Store computes its checks (R146, section 11.2), from the values
stored: the manual gives the check and not the layout. DESIGN CHOICE, log 6. -/
opaque Config.storedBytes : List Nat → List Byte

/-- Whether the save that ends by the device's own time reads back as written (R171), by the counter
of draws. DESIGN CHOICE, log 22. -/
opaque Config.readBackAgrees : Nat → Bool

end Sys2Proof
end

