-- ==== Sys2Proof/Syntax.lean ====
section
/-! DEFINITION. The commands of the EW-3: one constructor of `Instr` for each row of
spec/opcode_table.json, in the table's order, with the operands the rule of the row gives it; and the
named values the operands are made of. -/

namespace Sys2Proof

/-- The three station ports (chapter 10). -/
inductive Port where
  | g | s | h
deriving DecidableEq, Repr

/-- One value for each station port. -/
structure PerPort (α : Type) where
  g : α
  s : α
  h : α
deriving DecidableEq, Repr

/-- One value for each ballast bank 0 to 2. -/
structure PerBank (α : Type) where
  b0 : α
  b1 : α
  b2 : α
deriving DecidableEq, Repr

/-- The saw's three contactors (chapter 8). -/
inductive Contactor where
  | main | star | delta
deriving DecidableEq, Repr

/-- One value for each saw contactor. -/
structure PerContactor (α : Type) where
  main : α
  star : α
  delta : α
deriving DecidableEq, Repr

/-- A load entry, 0 to 15: hamlet circuits 0 to 13, the saw 14, the mill house 15 (chapter 5). -/
abbrev Entry := Fin 16

/-- A ballast bank, 0 to 2 (chapter 3). -/
abbrev Bank := Fin 3

/-- Polarity of an edge on LINE_ZC (section 1.3). -/
inductive Polarity where
  | rising | falling
deriving DecidableEq, Repr

/-- Line states (section 1.3). -/
inductive LineState where
  | absent | establishing | present
deriving DecidableEq, Repr

/-- Reference states (section 1.2). -/
inductive RefState where
  | starting | crystal | fallback
deriving DecidableEq, Repr

/-- Regulation states (section 2.2). -/
inductive RegState where
  | stopped | holding | regulating
deriving DecidableEq, Repr

/-- The states of a load entry (section 5.2); RESERVED holds its reservation slot and SHED its
cause, which are present in those states and absent in every other (section 5.1). -/
inductive EntryState where
  | off
  | waiting
  | reserved (slot : Fin 4)
  | on
  | shedUnderfrequency
  | shedLineLoss
  | displaced
  | rotaOff
deriving DecidableEq, Repr

/-- The causes of ENTRY CHANGED, in the order of the table of R81. -/
inductive MoveCause where
  | wantedSet | sawStart | startUp | wantedCleared | grant | arrived | notSeen | shed | lineLoss
  | recovery | restart | displaced | sawReturn | rotaExclude | rotaInclude | rotaStop
  | memberCleared | sawStopped
deriving DecidableEq, Repr

/-- Stages of the Saw Sequencer (section 8.1). -/
inductive SawStage where
  | off | waiting | star | changeover | delta | stopping | fault
deriving DecidableEq, Repr

/-- Causes of a change of saw stage, numbered 0 to 14 in this order by R139. -/
inductive SawCause where
  | sawStart | grant | dwellEnd | changeoverDone | stopPortS | stopPortG | shed | lineLoss
  | waitExpired | estop | portSAbsent | contactorsOpen | feedback | notOpen | cleared
deriving DecidableEq, Repr

/-- The causes with which the Load Table Controller stops the saw (R135). -/
inductive LoadTableStop where
  | shed | lineLoss
deriving DecidableEq, Repr

/-- The fourteen notice kinds, numbered 0 to 13 in this order (section 10.5). -/
inductive NoticeKind where
  | entryChanged | reservationEnded | sawStage | sawRefused | shedState | lineState
  | referenceState | rotaCrossed | gateAdvice | trip | faultRaised | settingsSaved
  | portPresence | regulationApplied
deriving DecidableEq, Repr

/-- The thirteen fault kinds, numbered 0 to 12 in this order (section 11.4). -/
inductive FaultKind where
  | lineLost | referenceFallback | beltSlip | shaftStill | overspeedTrip | ballastNone
  | ballastSaturated | shedExhausted | sawContactor | loadNotSeen | settingsDefaulted
  | saveFailed | portSilent
deriving DecidableEq, Repr

/-- Shed states (section 6.1). -/
inductive ShedState where
  | normal | confirming | shedding | recoveryHold
deriving DecidableEq, Repr

/-- What a raise says of the raiser's own state, of the values the snapshot records, as its raising event
left it (R175; log 17): the Line Monitor's line state and f, the reference state, the regulator's state, D
and Wd, the shed state, the saw stage, the trip latch; nothing from a block of which the snapshot records
no value. -/
inductive OwnState where
  | line (state : LineState) (f : Nat)
  | reference (state : RefState)
  | ballast (state : RegState) (d wd : Nat)
  | shed (state : ShedState)
  | saw (stage : SawStage)
  | turbine (latch : Bool)
  | other
deriving DecidableEq, Repr

/-- A raise as it reaches the Fault Unit (R172, R175): its kind, and what it says of its raiser. -/
structure FaultRaise where
  kind : FaultKind
  own : OwnState
deriving DecidableEq, Repr

/-- What asserts a full reset (R176): the supply first applied, the supply at a voltage that may lie
below the threshold, or RST_N low. -/
inductive ResetTrigger where
  | supplyApplied
  | supplyAt (millivolts : Nat)
  | rstLow
deriving DecidableEq, Repr

/-- Rating in watts and available flag of one bank (section 2.1). -/
structure BankParams where
  rating : Nat
  available : Bool
deriving DecidableEq, Repr

/-- The valid period handed to the Ballast Regulator (R16): the period, and the ring sum and
frequency when it comes marked LINE PRESENT (`none` when it comes marked LINE ESTABLISHING). -/
structure ValidPeriod where
  period : Nat
  present : Option (Nat × Nat)
deriving DecidableEq, Repr

/-- The regulation record of an update (R36). Its regulation state is REGULATING in every record the
regulator publishes (log 47). -/
structure RegRecord where
  f : Nat
  e : Int
  d : Nat
  wd : Nat
  floor : Nat
  a : Nat
  satHigh : Bool
  exhausted : Bool
  state : RegState
  time : Time
deriving DecidableEq, Repr

/-- What a change of regulation state carries (R25). -/
structure RegChange where
  state : RegState
  d : Nat
  wd : Nat
  floor : Nat
  satHigh : Bool
  exhausted : Bool
deriving DecidableEq, Repr

/-- A demand change (R26), with the ratings and available flags when it carries them. -/
structure DemandChange where
  d : Nat
  wd : Nat
  banks : Option (PerBank BankParams)
deriving DecidableEq, Repr

/-- A half-cycle start as the Line Monitor announces it (R11). -/
structure HalfCycle where
  polarity : Polarity
  time : Time
  h : Nat
deriving DecidableEq, Repr

/-- The commands. A request carries its port and the parameter fields of its frame, as bits
(section 10.2); an event between blocks carries what the announcing rule gives it. -/
inductive Instr where
  | fullResetAssert (trigger : ResetTrigger)
  | fullResetRelease (leastMillivolts : Nat) (rstHigh : Bool)
  | settingsLoadEnd
  | checkWindowEnd (cycles : Nat)
  | noGoodWindowTimeout
  | retryReference (p : Port)
  | sourceSwitch
  | lineZcEdge (polarity : Polarity)
  | absenceTimerExpiry
  | regulationUpdate (v : ValidPeriod)
  | applyRegulation (p : Port)
  | lineStateAtRegulator (l : LineState)
  | halfCycleStart (c : HalfCycle)
  | gatePulseDue (b : Bank)
  | gatePulseEnd (b : Bank)
  | recordAtFiring (r : RegRecord)
  | demandChange (c : DemandChange)
  | regStateAtFiring (c : RegChange)
  | lineStateAtFiring (l : LineState)
  | recordAtAdmission (r : RegRecord)
  | regStateAtAdmission (c : RegChange)
  | reservationExpiry (slot : Fin 4)
  | lastGrantTimeEmptied
  | sawWaitExpiry
  | writeEntry (p : Port) (entry flags : Byte) (watts : Half) (mask : Option Byte)
  | fillEntries (p : Port) (base selection : Byte)
  | setFieldMask (p : Port) (mask : Byte)
  | setFill (p : Port) (flags : Byte) (watts : Half)
  | readEntry (p : Port) (entry : Byte)
  | chainPlace (p : Port) (entry anchor : Byte)
  | chainRemove (p : Port) (entry : Byte)
  | readChain (p : Port)
  | sawStoppedReport
  | slotApplication (allowed : AllowedSet)
  | lineLossRequest
  | recordAtShed (r : RegRecord)
  | recoveryHoldExpiry
  | regStateAtShed (c : RegChange)
  | lineStateAtShed (l : LineState)
  | lineLossTimerExpiry
  | restartHoldExpiry
  | rotaWrite (p : Port) (page first : Byte) (sets : List Half)
  | rotaStart (p : Port) (page tap : Byte)
  | rotaSplit (p : Port) (page tap : Byte)
  | rotaStop (p : Port)
  | readRota (p : Port) (selection : Option (Byte × Byte × Byte))
  | slotTimerSecond
  | slotTimerExpiry
  | sawStart (p : Port) (surge : Half) (displace : Byte)
  | beginSignal
  | starDwellExpiry
  | deadTimeExpiry
  | checkTimerExpiry (k : Contactor)
  | auxChange (k : Contactor) (closed : Bool)
  | stoppingLimitExpiry
  | sawEstopChange (asserted : Bool)
  | sawStop (p : Port)
  | stopFromLoadTable (cause : LoadTableStop)
  | clearSawFault (p : Port)
  | recordAtTurbine (r : RegRecord)
  | regStateAtTurbine (c : RegChange)
  | lineStateAtTurbine (l : LineState)
  | shaftPulse
  | shaftGapTimerExpiry
  | standstillTimerExpiry
  | trip (p : Port)
  | tripReset (p : Port)
  | tripResetTimeMet
  | gateOpen (p : Port) (amount : Byte)
  | gateClose (p : Port) (amount : Byte)
  | tokenGain
  | readTurbine (p : Port)
  | tripAreaWriteStart
  | tripAreaWriteEnd
  | rxByte (p : Port) (b : Byte) (setupEn : Bool)
  | frameTimeout (p : Port)
  | responseStart (p : Port)
  | responseEnd (p : Port)
  | lineBreak (p : Port)
  | portReset (p : Port)
  | presenceTimerExpiry (p : Port)
  | readLinkFault (p : Port) (of : Byte)
  | clearLinkFault (p : Port)
  | readStatus (p : Port) (sectionNumber : Byte)
  | noticeDelivery (kind : NoticeKind) (subject value : Nat)
  | setNoticeControl (p : Port) (enable hold : Byte) (route mask : Half)
  | takeNotices (p : Port) (count : Byte)
  | faultRaise (raised : FaultRaise)
  | clearFaults (p : Port) (kinds : Half)
  | readFaults (p : Port)
  | readSetting (p : Port) (group item index : Byte)
  | writeSetting (p : Port) (group item index : Byte) (value : Wide)
  | saveSettings (p : Port)
  | saveRunStart
  | saveEnd (agrees : Bool)
  | rxGoneHigh (p : Port)
deriving DecidableEq, Repr

end Sys2Proof
end

