-- ==== Sys2Proof/Decode.lean ====
section
/-! DEFINITION. What is spelled in bits: the words of the opcode table (no row has bits), and the
request frames of the station ports: byte order, the CRC, the request catalogue of section 10.2, the
reading of a frame's parameters and the writing of a request's frame. -/

namespace Sys2Proof

/-- The command a word of the opcode table spells. No row of spec/opcode_table.json gives bits (98,
n_rows_with_fixed 0), so no word spells one. -/
def decodeTableWord (_nbits _w : Nat) : Option Instr := none

/-! ### Byte order (section 10.1: high byte first) -/

/-- A two-byte field from its bytes. -/
def half (hi lo : Byte) : Half := hi ++ lo

/-- A four-byte field from its bytes. -/
def wide (b3 b2 b1 b0 : Byte) : Wide := b3 ++ b2 ++ b1 ++ b0

/-- The bytes of a two-byte field. -/
def Half.bytes (h : Half) : List Byte := [h.extractLsb' 8 8, h.extractLsb' 0 8]

/-- The bytes of a four-byte field. -/
def Wide.bytes (w : Wide) : List Byte :=
  [w.extractLsb' 24 8, w.extractLsb' 16 8, w.extractLsb' 8 8, w.extractLsb' 0 8]

/-- Pairs of bytes as two-byte fields; none when a byte is left over. -/
def halves : List Byte → Option (List Half)
  | [] => some []
  | [_] => none
  | hi :: lo :: rest => (halves rest).map (half hi lo :: ·)

/-! ### The CRC (section 10.1) -/

/-- One bit of the check: polynomial 0x1021, most significant bit first. -/
def crcBit (c : BitVec 16) : BitVec 16 := if c.msb then (c <<< 1) ^^^ 0x1021#16 else c <<< 1

/-- One byte of the check. -/
def crcByte (c : BitVec 16) (b : Byte) : BitVec 16 :=
  (List.replicate 8 ()).foldl (fun c _ => crcBit c) (c ^^^ (b ++ 0#8))

/-- The check over a run of bytes: initial value 0xFFFF, no reflection, no final inversion. -/
def crc16 (bytes : List Byte) : BitVec 16 := bytes.foldl crcByte 0xFFFF#16

/-! ### The request catalogue (section 10.2) -/

/-- The requests of the catalogue, in its order. -/
inductive RequestName where
  | readStatus | takeNotices | setNoticeControl | readFaults | clearFaults | readLinkFault
  | clearLinkFault | readSetting | writeSetting | applyRegulation | saveSettings | readEntry
  | writeEntry | setFieldMask | setFill | fillEntries | chainPlace | chainRemove | readChain
  | sawStart | sawStop | clearSawFault | rotaWrite | rotaStart | rotaSplit | rotaStop | readRota
  | gateOpen | gateClose | trip | tripReset | retryReference | readTurbine | portReset
deriving DecidableEq, Repr

/-- Every request of the catalogue. -/
def RequestName.all : List RequestName :=
  [.readStatus, .takeNotices, .setNoticeControl, .readFaults, .clearFaults, .readLinkFault,
   .clearLinkFault, .readSetting, .writeSetting, .applyRegulation, .saveSettings, .readEntry,
   .writeEntry, .setFieldMask, .setFill, .fillEntries, .chainPlace, .chainRemove, .readChain,
   .sawStart, .sawStop, .clearSawFault, .rotaWrite, .rotaStart, .rotaSplit, .rotaStop, .readRota,
   .gateOpen, .gateClose, .trip, .tripReset, .retryReference, .readTurbine, .portReset]

/-- The catalogue's code. -/
def RequestName.code : RequestName → Byte
  | .readStatus => 0x01
  | .takeNotices => 0x02
  | .setNoticeControl => 0x03
  | .readFaults => 0x04
  | .clearFaults => 0x05
  | .readLinkFault => 0x06
  | .clearLinkFault => 0x07
  | .readSetting => 0x10
  | .writeSetting => 0x11
  | .applyRegulation => 0x12
  | .saveSettings => 0x13
  | .readEntry => 0x20
  | .writeEntry => 0x21
  | .setFieldMask => 0x22
  | .setFill => 0x23
  | .fillEntries => 0x24
  | .chainPlace => 0x25
  | .chainRemove => 0x26
  | .readChain => 0x27
  | .sawStart => 0x30
  | .sawStop => 0x31
  | .clearSawFault => 0x32
  | .rotaWrite => 0x40
  | .rotaStart => 0x41
  | .rotaSplit => 0x42
  | .rotaStop => 0x43
  | .readRota => 0x44
  | .gateOpen => 0x50
  | .gateClose => 0x51
  | .trip => 0x52
  | .tripReset => 0x53
  | .retryReference => 0x54
  | .readTurbine => 0x55
  | .portReset => 0x5F

/-- The request a CODE names, or none where the catalogue has none (R156 step 1). -/
def RequestName.ofCode (c : Byte) : Option RequestName := RequestName.all.find? (fun n => n.code == c)

/-- The catalogue's roles column: whether a port may send the request, with SETUP_EN as given
(R156 step 3). "Region" and "owner" are judged by the request's own rule. -/
def RequestName.permits (n : RequestName) (p : Port) (setup : Bool) : Bool :=
  match n with
  | .clearFaults | .chainPlace | .chainRemove => p == .g || p == .h
  | .applyRegulation | .gateOpen | .gateClose | .tripReset | .retryReference => p == .g
  | .saveSettings => p == .g || setup
  | .sawStart | .clearSawFault => p == .s
  | .sawStop => p == .s || p == .g
  | .rotaWrite => p == .h || setup
  | .rotaStart | .rotaSplit | .rotaStop => p == .h
  | .readStatus | .takeNotices | .setNoticeControl | .readFaults | .readLinkFault
  | .clearLinkFault | .readSetting | .writeSetting | .readEntry | .writeEntry | .setFieldMask
  | .setFill | .fillEntries | .readChain | .readRota | .trip | .readTurbine | .portReset => true

/-- The command a request's parameters spell; none where their number is not one of the lengths of the
catalogue (R156 step 2; ROTA WRITE has LEN 4 plus twice its count). -/
def RequestName.read (n : RequestName) (p : Port) (params : List Byte) : Option Instr :=
  match n, params with
  | .readStatus, [a] => some (.readStatus p a)
  | .takeNotices, [a] => some (.takeNotices p a)
  | .setNoticeControl, [e, h, r1, r0, m1, m0] =>
    some (.setNoticeControl p e h (half r1 r0) (half m1 m0))
  | .readFaults, [] => some (.readFaults p)
  | .clearFaults, [k1, k0] => some (.clearFaults p (half k1 k0))
  | .readLinkFault, [a] => some (.readLinkFault p a)
  | .clearLinkFault, [] => some (.clearLinkFault p)
  | .readSetting, [g, i, x] => some (.readSetting p g i x)
  | .writeSetting, [g, i, x, v3, v2, v1, v0] => some (.writeSetting p g i x (wide v3 v2 v1 v0))
  | .applyRegulation, [] => some (.applyRegulation p)
  | .saveSettings, [] => some (.saveSettings p)
  | .readEntry, [e] => some (.readEntry p e)
  | .writeEntry, [e, fl, w1, w0] => some (.writeEntry p e fl (half w1 w0) none)
  | .writeEntry, [e, fl, w1, w0, m] => some (.writeEntry p e fl (half w1 w0) (some m))
  | .setFieldMask, [m] => some (.setFieldMask p m)
  | .setFill, [fl, w1, w0] => some (.setFill p fl (half w1 w0))
  | .fillEntries, [b, sel] => some (.fillEntries p b sel)
  | .chainPlace, [e, a] => some (.chainPlace p e a)
  | .chainRemove, [e] => some (.chainRemove p e)
  | .readChain, [] => some (.readChain p)
  | .sawStart, [w1, w0, d] => some (.sawStart p (half w1 w0) d)
  | .sawStop, [] => some (.sawStop p)
  | .clearSawFault, [] => some (.clearSawFault p)
  | .rotaWrite, page :: first :: count :: sets =>
    if 1 ≤ count.toNat ∧ count.toNat ≤ 8 ∧ sets.length = 2 * count.toNat then
      (halves sets).map (.rotaWrite p page first ·)
    else none
  | .rotaStart, [page, tap] => some (.rotaStart p page tap)
  | .rotaSplit, [page, tap] => some (.rotaSplit p page tap)
  | .rotaStop, [] => some (.rotaStop p)
  | .readRota, [] => some (.readRota p none)
  | .readRota, [src, first, count] => some (.readRota p (some (src, first, count)))
  | .gateOpen, [a] => some (.gateOpen p a)
  | .gateClose, [a] => some (.gateClose p a)
  | .trip, [] => some (.trip p)
  | .tripReset, [] => some (.tripReset p)
  | .retryReference, [] => some (.retryReference p)
  | .readTurbine, [] => some (.readTurbine p)
  | .portReset, [] => some (.portReset p)
  | _, _ => none

/-! ### Writing a request -/

/-- The request a command is, with its port and the bytes of its parameters; none for a command that
is no request. -/
def Instr.asRequest : Instr → Option (RequestName × Port × List Byte)
  | .readStatus p a => some (.readStatus, p, [a])
  | .takeNotices p a => some (.takeNotices, p, [a])
  | .setNoticeControl p e h r m => some (.setNoticeControl, p, e :: h :: (r.bytes ++ m.bytes))
  | .readFaults p => some (.readFaults, p, [])
  | .clearFaults p k => some (.clearFaults, p, k.bytes)
  | .readLinkFault p a => some (.readLinkFault, p, [a])
  | .clearLinkFault p => some (.clearLinkFault, p, [])
  | .readSetting p g i x => some (.readSetting, p, [g, i, x])
  | .writeSetting p g i x v => some (.writeSetting, p, g :: i :: x :: v.bytes)
  | .applyRegulation p => some (.applyRegulation, p, [])
  | .saveSettings p => some (.saveSettings, p, [])
  | .readEntry p e => some (.readEntry, p, [e])
  | .writeEntry p e fl w m => some (.writeEntry, p, e :: fl :: (w.bytes ++ m.toList))
  | .setFieldMask p m => some (.setFieldMask, p, [m])
  | .setFill p fl w => some (.setFill, p, fl :: w.bytes)
  | .fillEntries p b sel => some (.fillEntries, p, [b, sel])
  | .chainPlace p e a => some (.chainPlace, p, [e, a])
  | .chainRemove p e => some (.chainRemove, p, [e])
  | .readChain p => some (.readChain, p, [])
  | .sawStart p w d => some (.sawStart, p, w.bytes ++ [d])
  | .sawStop p => some (.sawStop, p, [])
  | .clearSawFault p => some (.clearSawFault, p, [])
  | .rotaWrite p page first sets =>
    some (.rotaWrite, p, page :: first :: BitVec.ofNat 8 sets.length :: sets.flatMap Half.bytes)
  | .rotaStart p page tap => some (.rotaStart, p, [page, tap])
  | .rotaSplit p page tap => some (.rotaSplit, p, [page, tap])
  | .rotaStop p => some (.rotaStop, p, [])
  | .readRota p sel => some (.readRota, p, sel.elim [] (fun t => [t.1, t.2.1, t.2.2]))
  | .gateOpen p a => some (.gateOpen, p, [a])
  | .gateClose p a => some (.gateClose, p, [a])
  | .trip p => some (.trip, p, [])
  | .tripReset p => some (.tripReset, p, [])
  | .retryReference p => some (.retryReference, p, [])
  | .readTurbine p => some (.readTurbine, p, [])
  | .portReset p => some (.portReset, p, [])
  | _ => none

/-- The bytes LEN, CODE and PARAMS of a request. -/
def requestBody (n : RequestName) (params : List Byte) : List Byte :=
  BitVec.ofNat 8 (params.length + 1) :: n.code :: params

/-- A request frame (section 10.1): start byte, LEN, CODE, PARAMS and the CRC. -/
def requestFrame (n : RequestName) (params : List Byte) : List Byte :=
  0xC3 :: (requestBody n params ++ Half.bytes (crc16 (requestBody n params)))

/-- The frame of a command; empty for one that is no request. -/
def Instr.frame (i : Instr) : List Byte :=
  match i.asRequest with
  | some (n, _, params) => requestFrame n params
  | none => []

end Sys2Proof
end

