-- ==== Sys2Proof/Machine/State.lean ====
section
/-! DEFINITION. Every piece of state the manual gives the EW-3, as plain data, block by block
(00_scope.md, "Block overview"), and the machine right after a power-on full reset is released. -/

namespace Sys2Proof.Machine

/-- Why the machine stops with a fault. The manual stops the device nowhere: the thirteen faults of
chapter 11 are statuses in `FaultUnit`, so this type has no constructor. -/
inductive Fault where
deriving DecidableEq, Repr

/-- Why a command has no meaning. -/
inductive Refusal where
  /-- Raised by an arm of `exec` whose command has no meaning yet; safe (nothing is claimed of it).
  No arm does: every command of the table is modelled. -/
  | notModelled (mnemonic : String)
deriving DecidableEq, Repr

/-! ### Device -/

/-- Where the device stands between reset and service (R176, R177): a full reset asserted, start-up
running, or start-up complete. -/
inductive Phase where
  | held | starting | running
deriving DecidableEq, Repr

/-- The cause of the last full reset (R176). -/
inductive ResetCause where
  | powerOn | brownOut | pin
deriving DecidableEq, Repr

/-- What the Supply Monitor holds (R176). The threshold choice is `DeviceSettings.threshold295`. -/
structure Supply where
  cause : ResetCause
  /-- A release has happened since the supply was first applied (BROWN-OUT needs one). -/
  released : Bool
deriving DecidableEq, Repr

/-! ### Settings (chapter 11, section 11.1) -/

/-- The regulation group, one copy (section 2.1). -/
structure RegParams where
  fSet : Nat
  kp : Nat
  ki : Nat
  startDemand : Nat
  enable : Bool
  banks : PerBank BankParams
deriving DecidableEq, Repr

/-- The supervision group (section 9.1). -/
structure SupervisionSettings where
  overspeedF : Nat
  satMargin : Nat
  shaftLimit : Nat
  k100 : Nat
  slipLimit : Nat
  adviceLow : Nat
  adviceHigh : Nat
deriving DecidableEq, Repr

/-- The admission group (sections 4.1, 6.1 and 8.1). Times in the units of their tables. -/
structure AdmissionSettings where
  reserve : Nat
  restoreSpacing : Nat
  settleWindow : Nat
  shedMargin : Nat
  confirmLimit : Nat
  fastShedF : Nat
  recoveryHold : Nat
  restartHold : Nat
  sawWaitLimit : Nat
  starDwell : Nat
  deadTime : Nat
deriving DecidableEq, Repr

/-- The device group (chapters 5, 10 and 11). -/
structure DeviceSettings where
  regionLow : PerPort Nat
  regionHigh : PerPort Nat
  baud : PerPort Nat
  silence : PerPort Nat
  masks : FaultSet
  /-- The kinds of ALARM severity. -/
  alarms : FaultSet
  /-- The supply threshold is 2.95 V (otherwise 2.70 V). -/
  threshold295 : Bool
deriving DecidableEq, Repr

/-- The working values of groups 1, 2, 5 and of the rota group's slot period (minutes). -/
structure Settings where
  supervision : SupervisionSettings
  admission : AdmissionSettings
  slotPeriod : Nat
  device : DeviceSettings
deriving DecidableEq, Repr

/-! ### Reference Monitor and Line Monitor (chapter 1) -/

/-- The Reference Monitor (section 1.2). The source follows from the state. -/
structure Reference where
  state : RefState
  goodWindows : Nat
  /-- Start of the no-good-window timer, or stopped. -/
  noGood : Option Time
deriving DecidableEq, Repr

/-- An edge with its timebase. -/
structure Edge where
  polarity : Polarity
  time : Time
deriving DecidableEq, Repr

/-- The Line Monitor (table of section 1.3). -/
structure LineMonitor where
  state : LineState
  lastEdge : Option Edge
  lastRise : Option Time
  prevRise : Option Time
  lastFall : Option Time
  /-- The period ring, oldest first. -/
  ring : List Nat
  pLast : Option Nat
  invalid : Nat
  discard : Bool
  f : Nat
  h : Nat
  rejectedEdges : Nat
  rejectedPeriods : Nat
  /-- Start of the absence timer, or stopped. -/
  absence : Option Time
deriving DecidableEq, Repr

/-! ### Ballast Regulator (chapter 2) and Bank Firing Unit (chapter 3) -/

/-- The Ballast Regulator. -/
structure Ballast where
  active : RegParams
  shadow : RegParams
  state : RegState
  /-- The line state last made known to it (R25). -/
  line : LineState
  d : Nat
  wd : Nat
  a : Nat
  ePrev : Int
  lastError : Int
  /-- The floor ring, oldest first. -/
  ring : List Nat
  transferEnable : Bool
  satHigh : Bool
  exhausted : Bool
  satCount : Nat
  firstUpdate : Bool
  /-- The last record published (R36). -/
  record : Option RegRecord
deriving DecidableEq, Repr

/-- Firing state (section 3.2). -/
inductive FiringState where
  | off | firing
deriving DecidableEq, Repr

/-- Mark of a bank in the current set (R43, R45). -/
inductive BankMark where
  | fired | heldOff | notFired
deriving DecidableEq, Repr

/-- One bank of the current set. A bank that is NOT FIRED has no delay (R43). -/
structure BankSet where
  q : Nat
  delay : Option Nat
  mark : BankMark
deriving DecidableEq, Repr

/-- The current set and the half-period it was computed from (section 3.1). -/
structure CurrentSet where
  h : Nat
  banks : PerBank BankSet
deriving DecidableEq, Repr

/-- The Bank Firing Unit (table of section 3.1). -/
structure Firing where
  state : FiringState
  banks : PerBank BankParams
  /-- Regulation state and line state last made known to it (R39). -/
  reg : RegState
  line : LineState
  next : Option (PerBank Nat)
  current : Option CurrentSet
  /-- Per bank the due time of its scheduled pulse. -/
  schedule : PerBank (Option Time)
  /-- Per bank the due time of the pulse now given: BGk is high while one is. -/
  gates : PerBank (Option Time)
deriving DecidableEq, Repr

/-! ### Admission Unit (chapter 4) -/

/-- Origin of a reservation (R55). -/
inductive Origin where
  | restore | sawStart
deriving DecidableEq, Repr

/-- A record of the reservation table (R55). -/
structure Reservation where
  slot : Fin 4
  entry : Entry
  watts : Nat
  wdRef : Nat
  time : Time
  origin : Origin
deriving DecidableEq, Repr

/-- The saw request (section 4.1). The saw wait runs from `inserted` until it expires. -/
structure SawRequest where
  surge : Nat
  displace : Bool
  displaced : Bool
  inserted : Time
  /-- The saw wait has expired (R68): the saw is refused, and entry 14 leaves the queue by the report of
  the saw stopped (R131, R136; log 27). -/
  refused : Bool
deriving DecidableEq, Repr

/-- The Admission Unit (table of section 4.1). -/
structure Admission where
  floor : Nat
  /-- The reference mark: CRYSTAL (yes) or NOT CRYSTAL. -/
  crystal : Bool
  /-- The records held, in slot order. -/
  table : List Reservation
  /-- The admission queue, head first. -/
  queue : List Entry
  saw : Option SawRequest
  /-- The displaced list, oldest first. -/
  displaced : List Entry
  lastGrant : Option Time
deriving DecidableEq, Repr

/-! ### Load Table Controller (chapter 5) -/

/-- One value for each of the six writable fields (section 5.1). -/
structure Fields where
  wanted : Bool
  startWanted : Bool
  essential : Bool
  deferrable : Bool
  member : Bool
  watts : Nat
deriving DecidableEq, Repr

/-- One load entry (section 5.1). Its chain link follows from the chain. -/
structure Load where
  fields : Fields
  state : EntryState
  notSeen : Bool
deriving DecidableEq, Repr

/-- The Load Table Controller (section 5.1). -/
structure LoadTable where
  loads : Vector Load 16
  /-- Relay outputs LR0 to LR13 and LR15: closed or open. There is no LR14; its place stays open. -/
  relays : Vector Bool 16
  /-- The shed chain from its head. -/
  chain : List Entry
  masks : PerPort FieldMask
  fills : PerPort Fields
deriving DecidableEq, Repr

/-! ### Shed Controller (chapter 6) and Rota Player (chapter 7) -/

/-- The Shed Controller (table of section 6.1). -/
structure Shed where
  state : ShedState
  count : Nat
  /-- The shed stack, oldest shed first. -/
  stack : List Entry
  recovery : Option Time
  lineLoss : Option Time
  restartPending : Bool
  restart : Option Time
  /-- The regulation state last made known to it is REGULATING (R103). -/
  regulating : Bool
deriving DecidableEq, Repr

/-- Half of the play buffer (chapter 7). -/
inductive RotaHalf where
  | low | high
deriving DecidableEq, Repr

/-- A pending split (section 7.1). -/
structure Split where
  half : RotaHalf
  tap : Fin 32
  page : Fin 4
deriving DecidableEq, Repr

/-- The Rota Player (table of section 7.1). -/
structure Rota where
  pages : Vector (Vector AllowedSet 64) 4
  buffer : Vector AllowedSet 64
  playing : Bool
  pointer : Fin 64
  split : Option Split
  /-- The slot timer: whole seconds counted, and the start of the second now running. -/
  seconds : Nat
  second : Option Time
deriving DecidableEq, Repr

/-! ### Saw Sequencer (chapter 8) -/

/-- Kind of a saw fault record (section 8.1). -/
inductive SawFaultKind where
  | noConfirm | uncommanded | notOpen
deriving DecidableEq, Repr

/-- The saw fault record (section 8.1). -/
structure SawFault where
  contactor : Contactor
  kind : SawFaultKind
  stage : SawStage
  time : Time
deriving DecidableEq, Repr

/-- The Saw Sequencer (table of section 8.1) with its four inputs. -/
structure Saw where
  stage : SawStage
  /-- The contactor commands K_MAIN, K_STAR, K_DELTA: CLOSED (yes) or OPEN. -/
  commands : PerContactor Bool
  checks : PerContactor (Option Time)
  dwell : Option Time
  dead : Option Time
  stopping : Option Time
  latch : Bool
  record : Option SawFault
  lastStop : Option SawCause
  /-- The auxiliaries that have changed to OPEN since SAW STOPPING was entered (R129). -/
  opened : PerContactor Bool
  /-- AUX_MAIN, AUX_STAR, AUX_DELTA: CLOSED (yes) or OPEN. -/
  aux : PerContactor Bool
  /-- SAW_ESTOP asserted. -/
  estop : Bool
deriving DecidableEq, Repr

/-! ### Turbine Supervisor (chapter 9) -/

/-- Trip causes, numbered 1 to 4 in this order (section 9.1). -/
inductive TripCause where
  | lineOverspeed | saturatedOverspeed | shaftOverspeed | requested
deriving DecidableEq, Repr

/-- The trip record (section 9.1). -/
structure TripRecord where
  cause : TripCause
  time : Time
  f : Nat
deriving DecidableEq, Repr

/-- The trip time reference (R147): not set, set at a timebase, or met. -/
inductive TripReference where
  | unset
  | since (t : Time)
  | met
deriving DecidableEq, Repr

/-- The trip area write mark (R146). -/
inductive WriteMark where
  | clear | pending | inProgress
deriving DecidableEq, Repr

/-- Directions of the gate advice, numbered 0 to 3 in this order (R150). -/
inductive Direction where
  | hold | closeGate | openGate | tripped
deriving DecidableEq, Repr

/-- The Turbine Supervisor (table of section 9.1). -/
structure Turbine where
  latch : Bool
  record : Option TripRecord
  reference : TripReference
  mark : WriteMark
  lineCount : Nat
  satCount : Nat
  shaftCount : Nat
  lastPulse : Option Time
  prevPulse : Option Time
  gap : Option Time
  standstill : Option Time
  windowOpen : Bool
  windowRecords : Nat
  windowPulses : Nat
  strikes : Nat
  lastF : Option Nat
  lastSatHigh : Option Bool
  lastA : Option Nat
  direction : Direction
  excess : Int
  adviceCount : Nat
  tokens : Nat
  accrual : Option Time
  /-- The line state last made known to it (R149). -/
  line : LineState
  /-- The regulation state last made known to it is REGULATING (R144, R151). -/
  regulating : Bool
  /-- The RUN_PERMIT output: high (yes) or low. -/
  runPermit : Bool
deriving DecidableEq, Repr

/-! ### Station ports and Notice Unit (chapter 10) -/

/-- States of a frame receiver (R155). -/
inductive RxMode where
  | hunt | length | body | check
deriving DecidableEq, Repr

/-- A frame receiver: its state, the bytes of the frame so far from its start byte, and when the last
of them came. -/
structure Receiver where
  mode : RxMode
  bytes : List Byte
  last : Time
deriving DecidableEq, Repr

/-- Result codes (section 10.1), with the reasons of REFUSED. -/
inductive Result where
  | done | clamped | denied | busy | unknown | malformed
  | state | conflict | notPlaying | tooClose | tripped | conditions | reservationHeld | saturated
  | sawFault | estop | notInChain
deriving DecidableEq, Repr

/-- A response as formed (section 10.1). -/
structure Response where
  code : Byte
  result : Result
  waiting : Nat
  data : List Byte
deriving DecidableEq, Repr

/-- The response side of a port (R155, R157): nothing in hand; a request in hand, with SETUP_EN as it
stood when the frame was taken (R156 step 3); its response formed and not begun; or the response being
sent, with DE asserted. Times are those of the request's last byte, and of the response's start. -/
inductive Sender where
  | idle
  | inHand (since : Time) (setup : Bool)
  | ready (since : Time) (r : Response)
  | sending (since : Time) (frame : List Byte)
deriving DecidableEq, Repr

/-- The six kinds of link fault, bits 0 to 5 of the status in this order (R159). -/
inductive LinkKind where
  | frameTimeout | overlong | frameCheck | unknown | malformed | denied
deriving DecidableEq, Repr

/-- The link fault record of a port (R159). -/
structure LinkFaults where
  status : BitVec 6
  first : Option (LinkKind × List Byte)
deriving DecidableEq, Repr

/-- A station port (chapter 10). -/
structure PortLink where
  rx : Receiver
  tx : Sender
  present : Bool
  silence : Option Time
  faults : LinkFaults
  /-- A break has made its port reset and RX has not gone high since (R160). -/
  broken : Bool
  /-- The baud rate the line runs at (R162). -/
  lineBaud : Nat
  /-- A baud rate that takes effect when this port's present response has been sent (R162). -/
  baudNext : Option (Port × Nat)
deriving DecidableEq, Repr

/-- A notice (section 10.5). -/
structure Notice where
  kind : NoticeKind
  subject : Nat
  value : Nat
  time : BitVec 32
deriving DecidableEq, Repr

/-- The Notice Unit's share of one port (section 10.5). -/
structure NoticePort where
  enable : Bool
  hold : Bool
  route : NoticeSet
  mask : NoticeSet
  slots : Vector (Option Notice) 14
  queue : List Notice
deriving DecidableEq, Repr

/-! ### Fault Unit and Settings Store (chapter 11) -/

/-- The first-fault snapshot (R175). -/
structure Snapshot where
  kind : FaultKind
  time : Time
  f : Nat
  d : Nat
  wd : Nat
  line : LineState
  reference : RefState
  regulation : RegState
  shed : ShedState
  saw : SawStage
  latch : Bool
deriving DecidableEq, Repr

/-- The Fault Unit (section 11.4). Masks and severities are in `DeviceSettings`. -/
structure FaultUnit where
  status : FaultSet
  snapshot : Option Snapshot
  /-- The ALARM output: on (yes) or off. -/
  alarm : Bool
deriving DecidableEq, Repr

/-- The stored fields of one entry (group 3). -/
structure StoredLoad where
  startWanted : Bool
  essential : Bool
  deferrable : Bool
  member : Bool
  watts : Nat
deriving DecidableEq, Repr

/-- The stored chain (section 5.5): a head and, per entry, its link: absent, end, or the next entry. -/
structure StoredChain where
  head : Option Entry
  links : Vector (Option (Option Entry)) 16
deriving DecidableEq, Repr

/-- The contents of a settings image (section 11.2). -/
structure ImageData where
  regulation : RegParams
  settings : Settings
  loads : Vector StoredLoad 16
  chain : StoredChain
  pages : Vector (Vector AllowedSet 64) 4
deriving DecidableEq, Repr

/-- The stored image (section 11.2, R169): blank, or what a save has written with its CRC-16 check, which
the load compares. -/
inductive Image where
  | blank
  | written (contents : ImageData) (check : BitVec 16)
deriving DecidableEq, Repr

/-- The trip area (R146): blank, or the trip latch and trip record of a write with its own CRC-16 check,
which the load compares. -/
inductive TripArea where
  | blank
  | written (latch : Bool) (record : Option TripRecord) (check : BitVec 16)
deriving DecidableEq, Repr

/-- A trip-area write that runs: its start and the latch and record it writes (R146). -/
structure AreaWrite where
  start : Time
  latch : Bool
  record : Option TripRecord
deriving DecidableEq, Repr

/-- Save states (section 11.3), with the image a running save writes. -/
inductive SaveState where
  | idle
  | waiting
  | running (start : Time) (image : ImageData)
deriving DecidableEq, Repr

/-- The Settings Store (chapter 11). -/
structure Store where
  image : Image
  tripArea : TripArea
  areaWrite : Option AreaWrite
  save : SaveState
  loadStart : Time
deriving DecidableEq, Repr

end Sys2Proof.Machine

namespace Sys2Proof.Machine

/-- The whole state of the EW-3. -/
structure State where
  timebase : Time
  phase : Phase
  /-- The notice clock: milliseconds since start-up completed, and microseconds of the next one. -/
  clockMs : BitVec 32
  clockUs : Nat
  /-- The SETUP_EN input, as sampled with the last received byte (log 8). -/
  setupEn : Bool
  supply : Supply
  settings : Settings
  rfm : Reference
  lnm : LineMonitor
  brg : Ballast
  bfu : Firing
  adu : Admission
  ltc : LoadTable
  shc : Shed
  rtp : Rota
  sws : Saw
  tsv : Turbine
  ports : PerPort PortLink
  ntu : PerPort NoticePort
  flu : FaultUnit
  sst : Store
  /-- Events that one block has announced to another and that are not taken yet, oldest first. -/
  posted : List Instr
  /-- How many free values have been used. -/
  draws : Nat
  /-- The commands waiting, first in, first out. -/
  pending : List Instr
deriving DecidableEq, Repr

/-! ### Factory defaults -/

/-- Factory defaults of the regulation group (table of section 2.1). -/
def RegParams.factory : RegParams :=
  { fSet := 50000, kp := 512, ki := 64, startDemand := 1000, enable := true,
    banks := ⟨⟨0, true⟩, ⟨0, true⟩, ⟨0, true⟩⟩ }

/-- Factory defaults of groups 1, 2, 4 and 5 (tables of sections 9.1, 4.1, 6.1, 8.1, 7.1; R82, R161,
R162, section 11.4, R176). -/
def Settings.factory : Settings :=
  { supervision :=
      { overspeedF := 57500, satMargin := 2000, shaftLimit := 0, k100 := 0, slipLimit := 30,
        adviceLow := 200, adviceHigh := 450 }
    admission :=
      { reserve := 2000, restoreSpacing := 2000, settleWindow := 3000, shedMargin := 800,
        confirmLimit := 10, fastShedF := 46000, recoveryHold := 30, restartHold := 10,
        sawWaitLimit := 60, starDwell := 6000, deadTime := 80 }
    slotPeriod := 15
    device :=
      { regionLow := ⟨15, 14, 0⟩, regionHigh := ⟨15, 14, 13⟩,
        baud := ⟨115200, 115200, 115200⟩, silence := ⟨0, 0, 0⟩, masks := 0,
        alarms := 0b0110110010101#13, threshold295 := false } }

/-- The factory default of a rota slot: every circuit allowed (R111). -/
def allowAll : AllowedSet := BitVec.allOnes 14

/-- A rota page at its factory default (R111). -/
def factoryPage : Vector AllowedSet 64 := Vector.replicate 64 allowAll

/-- The fields of a fill record after a reset (R72). -/
def Fields.none : Fields :=
  { wanted := false, startWanted := false, essential := false, deferrable := false,
    member := false, watts := 0 }

/-- A load entry at rest with factory fields (R72). -/
def Load.rest : Load := { fields := Fields.none, state := .off, notSeen := false }

/-- Stored fields of an entry at their factory default (R72). -/
def StoredLoad.factory : StoredLoad :=
  { startWanted := false, essential := false, deferrable := false, member := false, watts := 0 }

/-- The loaded image made of the factory defaults of every group (R169). -/
def ImageData.factory : ImageData :=
  { regulation := RegParams.factory
    settings := Settings.factory
    loads := (Vector.replicate 16 StoredLoad.factory).set 15 { StoredLoad.factory with essential := true }
    chain := { head := none, links := Vector.replicate 16 none }
    pages := Vector.replicate 4 factoryPage }

/-! ### Reset values -/

/-- A port at a full reset (R162). -/
def PortLink.reset : PortLink :=
  { rx := { mode := .hunt, bytes := [], last := 0 }, tx := .idle, present := true, silence := none,
    faults := { status := 0, first := none }, broken := false, lineBaud := 115200, baudNext := none }

/-- The Notice Unit's share of a port at a full reset, with the default routing given (R167). -/
def NoticePort.reset (route : NoticeSet) : NoticePort :=
  { enable := true, hold := false, route := route, mask := 0, slots := Vector.replicate 14 none,
    queue := [] }

/-- The default routing of the kinds table (section 10.5): G takes 2 to 6 and 8 to 13 ... -/
def routeG : NoticeSet := 0b11111101111100#14

/-- ... S takes 0 to 6 and 9 to 11 ... -/
def routeS : NoticeSet := 0b00111001111111#14

/-- ... and H takes 0, 1, 4 to 7 and 9 to 11. -/
def routeH : NoticeSet := 0b00111011110011#14

/-- The device with every volatile item at its full-reset value (R2, R9, R20, R38, R52, R72, R95,
R111, R123, R141, R162, R167, R170, R175), in the phase, with the supply's story, the nonvolatile
store contents, the sequencer's input levels and the SETUP_EN level given. Items that no rule gives a
value before the load ends are named in log 12. -/
def State.cold (phase : Phase) (supply : Supply) (image : Image) (tripArea : TripArea)
    (aux : PerContactor Bool) (estop setupEn : Bool) : State :=
  { timebase := 0
    phase := phase
    clockMs := 0
    clockUs := 0
    setupEn := setupEn
    supply := supply
    settings := Settings.factory
    rfm := { state := .starting, goodWindows := 0, noGood := some 0 }
    lnm :=
      { state := .absent, lastEdge := none, lastRise := none, prevRise := none, lastFall := none,
        ring := [], pLast := none, invalid := 0, discard := false, f := 0, h := 10000,
        rejectedEdges := 0, rejectedPeriods := 0, absence := none }
    brg :=
      { active := RegParams.factory, shadow := RegParams.factory, state := .stopped, line := .absent,
        d := 0, wd := 0, a := 0, ePrev := 0, lastError := 0, ring := [], transferEnable := false,
        satHigh := false, exhausted := false, satCount := 0, firstUpdate := false, record := none }
    bfu :=
      { state := .off, banks := ⟨⟨0, false⟩, ⟨0, false⟩, ⟨0, false⟩⟩, reg := .stopped,
        line := .absent, next := none, current := none, schedule := ⟨none, none, none⟩,
        gates := ⟨none, none, none⟩ }
    adu :=
      { floor := 0, crystal := false, table := [], queue := [], saw := none, displaced := [],
        lastGrant := none }
    ltc :=
      { loads := (Vector.replicate 16 Load.rest).set 15
          { Load.rest with fields := { Fields.none with essential := true } },
        relays := Vector.replicate 16 false, chain := [],
        masks := ⟨BitVec.allOnes 6, BitVec.allOnes 6, BitVec.allOnes 6⟩,
        fills := ⟨Fields.none, Fields.none, Fields.none⟩ }
    shc :=
      { state := .normal, count := 0, stack := [], recovery := none, lineLoss := none,
        restartPending := false, restart := none, regulating := false }
    rtp :=
      { pages := Vector.replicate 4 factoryPage, buffer := factoryPage, playing := false,
        pointer := 0, split := none, seconds := 0, second := none }
    sws :=
      { stage := .off, commands := ⟨false, false, false⟩, checks := ⟨none, none, none⟩,
        dwell := none, dead := none, stopping := none, latch := false, record := none,
        lastStop := none, opened := ⟨false, false, false⟩, aux := aux, estop := estop }
    tsv :=
      { latch := false, record := none, reference := .unset, mark := .clear, lineCount := 0,
        satCount := 0, shaftCount := 0, lastPulse := none, prevPulse := none, gap := none,
        standstill := none, windowOpen := false, windowRecords := 0, windowPulses := 0,
        strikes := 0, lastF := none, lastSatHigh := none, lastA := none, direction := .hold,
        excess := 0, adviceCount := 0, tokens := 50, accrual := none, line := .absent,
        regulating := false, runPermit := false }
    ports := ⟨PortLink.reset, PortLink.reset, PortLink.reset⟩
    ntu := ⟨NoticePort.reset routeG, NoticePort.reset routeS, NoticePort.reset routeH⟩
    flu := { status := 0, snapshot := none, alarm := false }
    sst := { image := image, tripArea := tripArea, areaWrite := none, save := .idle, loadStart := 0 }
    posted := []
    draws := 0
    pending := [] }

/-- The machine right after the release of a power-on full reset (R2, R177): start-up has begun, the
store is blank, every input of the Saw Sequencer at rest and SETUP_EN released (logs 5 and 7). -/
def State.reset : State :=
  State.cold .starting { cause := .powerOn, released := true } .blank .blank ⟨false, false, false⟩
    false false

end Sys2Proof.Machine
end

