-- ==== Sys2Proof/Machine/Ops.lean ====
section
/-! DEFINITION. The operations every block's meanings share: reading and changing one of a fixed number
of like things, the numbers of named values in frames and notices, timers against the timebase, events
announced to another block, and the one operation that moves the state of a load entry (R73 to R81). -/

namespace Sys2Proof

/-! ### One of a fixed number of like things -/

/-- The three ports, in the order G, S, H. -/
def Port.all : List Port := [.g, .s, .h]

/-- The port with a number of section 10.5: G 0, S 1, H 2. -/
def Port.ofNumber : Nat → Option Port
  | 0 => some .g
  | 1 => some .s
  | 2 => some .h
  | _ => none

/-- The number of a port (section 10.5). -/
def Port.number : Port → Nat
  | .g => 0
  | .s => 1
  | .h => 2

/-- The value held for one port. -/
def PerPort.get {α : Type} (v : PerPort α) : Port → α
  | .g => v.g
  | .s => v.s
  | .h => v.h

/-- The values with one port's replaced. -/
def PerPort.set {α : Type} (v : PerPort α) (p : Port) (x : α) : PerPort α :=
  match p with
  | .g => { v with g := x }
  | .s => { v with s := x }
  | .h => { v with h := x }

/-- The three contactors, lowest first (R123). -/
def Contactor.all : List Contactor := [.main, .star, .delta]

/-- The value held for one contactor. -/
def PerContactor.get {α : Type} (v : PerContactor α) : Contactor → α
  | .main => v.main
  | .star => v.star
  | .delta => v.delta

/-- The values with one contactor's replaced. -/
def PerContactor.set {α : Type} (v : PerContactor α) (k : Contactor) (x : α) : PerContactor α :=
  match k with
  | .main => { v with main := x }
  | .star => { v with star := x }
  | .delta => { v with delta := x }

/-- The three banks, in filling order (R41). -/
def Bank.all : List Bank := [0, 1, 2]

/-- The value held for one bank. -/
def PerBank.get {α : Type} (v : PerBank α) (b : Bank) : α :=
  match b with
  | 0 => v.b0
  | 1 => v.b1
  | 2 => v.b2

/-- The values with one bank's replaced. -/
def PerBank.set {α : Type} (v : PerBank α) (b : Bank) (x : α) : PerBank α :=
  match b with
  | 0 => { v with b0 := x }
  | 1 => { v with b1 := x }
  | 2 => { v with b2 := x }

/-- A function of each bank's value. -/
def PerBank.map {α β : Type} (v : PerBank α) (f : α → β) : PerBank β := ⟨f v.b0, f v.b1, f v.b2⟩

/-- The sixteen entries in index order. -/
def Entry.all : List Entry := [0, 1, 2, 3, 4, 5, 6, 7, 8, 9, 10, 11, 12, 13, 14, 15]

/-- The saw's entry (section 5.1). -/
def sawEntry : Entry := 14

/-! ### Numbers of named values (R81, R108, R139, R158, sections 10.5 and 11.4) -/

/-- OFF 0 to ROTA-OFF 6 (section 10.2). -/
def EntryState.number : EntryState → Nat
  | .off => 0
  | .waiting => 1
  | .reserved _ => 2
  | .on => 3
  | .shedUnderfrequency => 4
  | .shedLineLoss => 4
  | .displaced => 5
  | .rotaOff => 6

/-- WANTED SET 0 to SAW STOPPED 17 (section 10.5). -/
def MoveCause.number (c : MoveCause) : Nat := c.ctorIdx

/-- SAW OFF 0 to SAW FAULT 6 (R139). -/
def SawStage.number (g : SawStage) : Nat := g.ctorIdx

/-- SAW START 0 to CLEARED 14 (R139). -/
def SawCause.number (c : SawCause) : Nat := c.ctorIdx

/-- ENTRY CHANGED 0 to REGULATION APPLIED 13 (section 10.5). -/
def NoticeKind.number (k : NoticeKind) : Nat := k.ctorIdx

/-- The notice kinds in order. -/
def NoticeKind.all : List NoticeKind :=
  [.entryChanged, .reservationEnded, .sawStage, .sawRefused, .shedState, .lineState,
   .referenceState, .rotaCrossed, .gateAdvice, .trip, .faultRaised, .settingsSaved, .portPresence,
   .regulationApplied]

/-- LINE LOST 0 to PORT SILENT 12 (section 11.4). -/
def FaultKind.number (k : FaultKind) : Nat := k.ctorIdx

/-- The fault kinds in order. -/
def FaultKind.all : List FaultKind :=
  [.lineLost, .referenceFallback, .beltSlip, .shaftStill, .overspeedTrip, .ballastNone,
   .ballastSaturated, .shedExhausted, .sawContactor, .loadNotSeen, .settingsDefaulted, .saveFailed,
   .portSilent]

/-- LINE ABSENT 0, ESTABLISHING 1, PRESENT 2 (R158 section 1). -/
def LineState.number (l : LineState) : Nat := l.ctorIdx

/-- REF STARTING 0, REF CRYSTAL 1, REF FALLBACK 2 (R158 section 0). -/
def RefState.number (r : RefState) : Nat := r.ctorIdx

/-- BALLAST STOPPED 0, HOLDING 1, REGULATING 2 (R158 section 2). -/
def RegState.number (r : RegState) : Nat := r.ctorIdx

/-- RESERVED or ON: the states in which an entry's relay is closed (R73). -/
def EntryState.energised : EntryState → Bool
  | .reserved _ => true
  | .on => true
  | _ => false

/-- RESERVED, in any slot. -/
def EntryState.isReserved : EntryState → Bool
  | .reserved _ => true
  | _ => false

/-- NORMAL 0 to RECOVERY HOLD 3 (R108). -/
def ShedState.number (x : ShedState) : Nat := x.ctorIdx

namespace Machine

/-- LINE OVERSPEED 1 to REQUESTED 4 (section 9.1). -/
def TripCause.number (c : TripCause) : Nat := c.ctorIdx + 1

/-- HOLD 0, CLOSE 1, OPEN 2, TRIPPED 3 (R150). -/
def Direction.number (d : Direction) : Nat := d.ctorIdx

/-- The answer of a meaning. -/
abbrev Answer := Host.Outcome State Fault Refusal

/-! ### Rounding and clamping (00_scope.md, "Quantities") -/

/-- A quotient rounded to nearest, ties away from zero; the divisor is positive. -/
def roundNearest (a : Int) (b : Nat) : Int :=
  if 0 ≤ a then (2 * a + b) / (2 * b) else -((2 * (-a) + b) / (2 * b))

/-- A value clamped to a range. -/
def clampInt (lo hi x : Int) : Int := max lo (min hi x)

/-! ### Time (R1; 00_scope.md, "Time") -/

/-- Microseconds from a timebase value to now, modulo 2^32. -/
def State.elapsed (s : State) (t : Time) : Nat := (s.timebase - t).toNat

/-- A timer that runs has been running for at least a duration in µs. -/
def State.ranOut (s : State) (timer : Option Time) (us : Nat) : Bool :=
  match timer with
  | some t => decide (us ≤ s.elapsed t)
  | none => false

/-- A timebase value has been reached (differences are far below 2^31). -/
def State.reached (s : State) (t : Time) : Bool := decide (s.elapsed t < 2 ^ 31)

/-- Microseconds left of a timer, 0 when it is not running or has run its duration. -/
def State.left (s : State) (timer : Option Time) (us : Nat) : Nat :=
  match timer with
  | some t => us - s.elapsed t
  | none => 0

/-- A time left in milliseconds (R158). How a part of a millisecond shows is left open: log 16. -/
def inMs (us : Nat) : Nat := if Config.timeLeftRoundsUp then (us + 999) / 1000 else us / 1000

/-! ### When a block acts (R9, R123, R141, R162, R176, R177) -/

/-- What happens only once start-up has completed; before that the event changes nothing. -/
def State.whenRunning (s : State) (act : State → State) : State :=
  if s.phase = .running then act s else s

/-- What happens whenever no full reset is asserted. -/
def State.whenReleased (s : State) (act : State → State) : State :=
  if s.phase = .held then s else act s

/-! ### Events announced to other blocks -/

/-- An event announced, to be taken as an event of its own (log 2). -/
def State.post (s : State) (i : Instr) : State := { s with posted := s.posted ++ [i] }

/-- Several events announced, in order. -/
def State.postAll (s : State) (is : List Instr) : State := { s with posted := s.posted ++ is }

/-- A notice given to the Notice Unit (R163). -/
def State.notice (s : State) (k : NoticeKind) (subject value : Nat) : State :=
  s.post (.noticeDelivery k subject value)

/-- What the block that raises a kind says of its own state, as it stands (R175). -/
def State.ownOf (s : State) : FaultKind → OwnState
  | .lineLost => .line s.lnm.state s.lnm.f
  | .referenceFallback => .reference s.rfm.state
  | .beltSlip | .shaftStill | .overspeedTrip => .turbine s.tsv.latch
  | .ballastNone | .ballastSaturated => .ballast s.brg.state s.brg.d s.brg.wd
  | .shedExhausted => .shed s.shc.state
  | .sawContactor => .saw s.sws.stage
  | .loadNotSeen | .settingsDefaulted | .saveFailed | .portSilent => .other

/-- A fault raised to the Fault Unit (R172), with the raiser's own state as it stands: a block raises it
after its own change in the same event (R175). -/
def State.raise (s : State) (k : FaultKind) : State := s.post (.faultRaise ⟨k, s.ownOf k⟩)

/-! ### Load entries -/

/-- One load entry. -/
def State.load (s : State) (e : Entry) : Load := s.ltc.loads.get e

/-- The state of one entry. -/
def State.entryState (s : State) (e : Entry) : EntryState := (s.load e).state

/-- One entry's record replaced. -/
def State.setLoad (s : State) (e : Entry) (l : Load) : State :=
  { s with ltc := { s.ltc with loads := s.ltc.loads.set e.val l } }

/-- Each entry in index order for which a test holds when its turn comes is acted on. -/
def State.forEntries (s : State) (test : State → Entry → Bool) (act : State → Entry → State) : State :=
  Entry.all.foldl (fun s e => if test s e then act s e else s) s

/-- An entry placed directly after the last member that passes the test, or at the head when none
does (R61). -/
def insertAfterLast (test : Entry → Bool) (e : Entry) : List Entry → List Entry
  | [] => [e]
  | x :: xs => if (x :: xs).any test then x :: insertAfterLast test e xs else e :: x :: xs

/-- The queue with an entry inserted: an essential entry after the last essential one, any other at the
tail (R61). -/
def State.queueWith (s : State) (queue : List Entry) (e : Entry) (essential : Bool) : List Entry :=
  if essential then insertAfterLast (fun x => (s.load x).fields.essential) e queue else queue ++ [e]

/-- The Admission Unit's part of a move: the entry leaves the queue, the reservation table or the
displaced list that held it (R60, R62, R67; the saw request goes with entry 14), and an entry moved to
WAITING is queued (R61). -/
def State.admissionAfterMove (s : State) (e : Entry) (dest : EntryState) : Admission :=
  let a := s.adu
  let a :=
    match s.entryState e with
    | .waiting =>
      { a with queue := a.queue.erase e, saw := if e = sawEntry then none else a.saw }
    | .reserved _ => { a with table := a.table.filter (fun r => r.entry ≠ e) }
    | .displaced => { a with displaced := a.displaced.erase e }
    | _ => a
  match dest with
  | .waiting => { a with queue := s.queueWith a.queue e (s.load e).fields.essential }
  | _ => a

/-- The one move of a load entry's state: its record, its wanted field (yes in every state but OFF),
its relay (R73), the queue, reservation table, displaced list or shed stack that held it, and the
notice ENTRY CHANGED with the cause (R81), in one event (section 5.2). -/
def State.moveEntry (s : State) (e : Entry) (dest : EntryState) (cause : MoveCause) : State :=
  { s with
    ltc :=
      { s.ltc with
        loads := s.ltc.loads.set e.val
          { s.load e with
            state := dest, fields := { (s.load e).fields with wanted := decide (dest ≠ .off) } }
        relays := s.ltc.relays.set e.val (dest.energised && decide (e ≠ sawEntry)) }
    adu := s.admissionAfterMove e dest
    shc :=
      { s.shc with
        stack :=
          if s.entryState e = .shedUnderfrequency then s.shc.stack.erase e else s.shc.stack }
    posted :=
      s.posted ++ [.noticeDelivery .entryChanged e.val (dest.number + 16 * cause.number)] }

/-- The slot the play pointer marks leaves an entry out (R74, R86): only while the rota plays, and
never entries 14 and 15, of which a slot does not speak (chapter 7). -/
def State.rotaExcludes (s : State) (e : Entry) : Bool :=
  s.rtp.playing && decide (e.val < 14) && !((s.rtp.buffer.get s.rtp.pointer).getLsbD e.val)

/-- Wanted set on an entry in OFF: to ROTA-OFF for a member the playing slot leaves out, to WAITING
otherwise (R74). -/
def State.wantEntry (s : State) (e : Entry) (cause : MoveCause) : State :=
  if (s.load e).fields.member && s.rotaExcludes e then s.moveEntry e .rotaOff cause
  else s.moveEntry e .waiting cause

/-- The Saw Sequencer is told to stop when the Load Table Controller takes entry 14 out of WAITING,
RESERVED or ON by a shed or by line loss (R76, R77, R80). -/
def State.stopSaw (s : State) (cause : LoadTableStop) : State := s.post (.stopFromLoadTable cause)

end Machine
end Sys2Proof
end

