-- ==== Sys2Proof/Machine/Flags.lean ====
section
/-! DEFINITION. Every flag the rules compute: the saturation flags of an update (R33), SHORT and FAST
(R96, R97), the acceptance of an edge (R10), the status, snapshot and ALARM output of a fault (R172,
R174, R175), and the conflicts of an entry write (R84). -/

namespace Sys2Proof.Machine

/-- SAT HIGH: all the ballast taken and the plant still fast (R33). -/
def satHighFlag (d : Nat) (e : Int) : Bool := decide (d = 1000) && decide (0 < e)

/-- EXHAUSTED: no ballast left and the plant still slow (R33). -/
def exhaustedFlag (d : Nat) (e : Int) : Bool := decide (d = 0) && decide (e < 0)

/-- SHORT at a regulation record (R96). -/
def shortFlag (margin : Nat) (r : RegRecord) : Bool := decide (r.d = 0) && decide (r.e ≤ -(margin : Int))

/-- FAST at a regulation record (R97). -/
def fastFlag (fastShedF : Nat) (r : RegRecord) : Bool := decide (r.f ≤ fastShedF) && decide (r.e < 0)

/-- An edge is accepted: of the other polarity than the last accepted edge and at least 6,000 µs
after it, or there is none (R10). -/
def State.acceptsEdge (s : State) (p : Polarity) : Bool :=
  match s.lnm.lastEdge with
  | none => true
  | some edge => decide (edge.polarity ≠ p) && decide (6000 ≤ s.elapsed edge.time)

/-- ALARM is on while a kind is set, unmasked and of ALARM severity (R174). -/
def alarmOutput (status masks alarms : FaultSet) : Bool := decide (status &&& ~~~masks &&& alarms ≠ 0)

/-- The ALARM output follows the statuses, masks and severities as they stand (R174). -/
def State.judgeAlarm (s : State) : State :=
  { s with
    flu :=
      { s.flu with
        alarm := alarmOutput s.flu.status s.settings.device.masks s.settings.device.alarms } }

/-- The set holding one fault kind. -/
def faultBit (k : FaultKind) : FaultSet := 1#13 <<< k.number

/-- A snapshot with the raiser's own values as its raising event left them (R175). -/
def Snapshot.withOwn (x : Snapshot) : OwnState → Snapshot
  | .line state f => { x with line := state, f := f }
  | .reference state => { x with reference := state }
  | .ballast state d wd => { x with regulation := state, d := d, wd := wd }
  | .shed state => { x with shed := state }
  | .saw stage => { x with saw := stage }
  | .turbine latch => { x with latch := latch }
  | .other => x

/-- The plant as it stands, under a kind. -/
def State.plantAt (s : State) (k : FaultKind) : Snapshot :=
  { kind := k, time := s.timebase, f := s.lnm.f, d := s.brg.d, wd := s.brg.wd, line := s.lnm.state,
    reference := s.rfm.state, regulation := s.brg.state, shed := s.shc.state, saw := s.sws.stage,
    latch := s.tsv.latch }

/-- The snapshot of a raise (R175): the plant as it stands, and the raiser's own state as the raise
carries it. -/
def State.snapshotOf (s : State) (x : FaultRaise) : Snapshot := (s.plantAt x.kind).withOwn x.own

/-- A raise taken by the Fault Unit (R172): of a kind whose status is set it changes nothing; otherwise
the status is set, an unmasked kind gives FAULT RAISED and fills an empty snapshot, and ALARM follows. -/
def State.takeRaise (s : State) (x : FaultRaise) : State :=
  if s.flu.status.getLsbD x.kind.number then s
  else
    let unmasked := !s.settings.device.masks.getLsbD x.kind.number
    let flu :=
      { s.flu with
        status := s.flu.status ||| faultBit x.kind
        snapshot :=
          if unmasked && s.flu.snapshot.isNone then some (s.snapshotOf x) else s.flu.snapshot }
    let s := { s with flu := flu }.judgeAlarm
    if unmasked then s.notice .faultRaised x.kind.number 0 else s

/-- The conflicts of a write that would leave an entry with the given fields (R84). -/
def State.writeConflicts (s : State) (e : Entry) (mask : FieldMask) (after : Fields) : Bool :=
  let st := s.entryState e
  (after.essential && decide (e ∈ s.ltc.chain))
    || (after.essential && after.member)
    || (after.essential
        && (st == .shedUnderfrequency || st == .displaced || st == .rotaOff))
    || (after.member && (e == 14 || e == 15))
    || (mask.getLsbD 0 && e == 14)
    || (after.startWanted && e == 14)

end Sys2Proof.Machine
end

