-- ==== Sys2Proof/Machine/Operands.lean ====
section
/-! DEFINITION. How operands and answers are spelled in frames (section 10.2), the link fault record
(R159), and the one operation by which a block takes a request and its answer is formed (R156, R157). -/

namespace Sys2Proof.Machine

/-! ### Parameter fields -/

/-- An entry index 0 to 15. -/
def entryOf (b : Byte) : Option Entry := if h : b.toNat < 16 then some ⟨b.toNat, h⟩ else none

/-- A rota page 0 to 3. -/
def pageOf (b : Byte) : Option (Fin 4) := if h : b.toNat < 4 then some ⟨b.toNat, h⟩ else none

/-- A slot 0 to 63 (R117). -/
def slotOf (b : Byte) : Option (Fin 64) := if h : b.toNat < 64 then some ⟨b.toNat, h⟩ else none

/-- A split's tap 0 to 31 (R118). -/
def tapOf (b : Byte) : Option (Fin 32) := if h : b.toNat < 32 then some ⟨b.toNat, h⟩ else none

/-- A yes-or-no byte: 0 or 1. -/
def yesNo (b : Byte) : Option Bool :=
  if b = 0 then some false else if b = 1 then some true else none

/-- Values of the six writable fields from a flags byte and a watts field; bits 5 to 7 of the flags are
ignored (section 10.2, R156). -/
def fieldsOf (flags : Byte) (watts : Nat) : Fields :=
  { wanted := flags.getLsbD 0, startWanted := flags.getLsbD 1, essential := flags.getLsbD 2,
    deferrable := flags.getLsbD 3, member := flags.getLsbD 4, watts := watts }

/-- A field mask from its byte; bits 6 and 7 are ignored. -/
def maskOf (b : Byte) : FieldMask := b.setWidth 6

/-- The greatest declared watts (section 5.1). -/
def maxWatts : Nat := 30000

/-! ### Data fields -/

/-- A one-byte field. -/
def n1 (n : Nat) : List Byte := [BitVec.ofNat 8 n]

/-- A two-byte field. -/
def n2 (n : Nat) : List Byte := Half.bytes (BitVec.ofNat 16 n)

/-- A four-byte field. -/
def n4 (n : Nat) : List Byte := Wide.bytes (BitVec.ofNat 32 n)

/-- A signed two-byte field. -/
def i2 (n : Int) : List Byte := Half.bytes (BitVec.ofInt 16 n)

/-- A signed four-byte field. -/
def i4 (n : Int) : List Byte := Wide.bytes (BitVec.ofInt 32 n)

/-- Yes 1, no 0. -/
def flagByte (b : Bool) : List Byte := n1 b.toNat

/-- A capture: four bytes, 0xFFFFFFFF when empty (R158). -/
def captureBytes (t : Option Time) : List Byte := Wide.bytes (t.getD 0xFFFFFFFF)

/-- A flags byte (section 10.2). -/
def flagsByte (f : Fields) : List Byte :=
  n1 (f.wanted.toNat + 2 * f.startWanted.toNat + 4 * f.essential.toNat + 8 * f.deferrable.toNat
    + 16 * f.member.toNat)

/-- Three contactor bits: 0 MAIN, 1 STAR, 2 DELTA (R158 section 8). -/
def contactorBits (v : PerContactor Bool) : List Byte :=
  n1 (v.main.toNat + 2 * v.star.toNat + 4 * v.delta.toNat)

/-- Bytes of fields whose value the manual does not state, their item being absent (log 15). -/
def State.unstated (s : State) (place n : Nat) : List Byte :=
  (List.range n).map (fun k => Config.unstatedByte s.draws (place + k))

/-- One more free value used. -/
def State.draw (s : State) : State := { s with draws := s.draws + 1 }

/-- The RESULT byte (section 10.1). -/
def Result.byte : Result → Byte
  | .done => 0x00
  | .clamped => 0x01
  | .denied => 0x02
  | .busy => 0x03
  | .unknown => 0x04
  | .malformed => 0x05
  | .state => 0x10
  | .conflict => 0x11
  | .notPlaying => 0x12
  | .tooClose => 0x13
  | .tripped => 0x14
  | .conditions => 0x15
  | .reservationHeld => 0x16
  | .saturated => 0x17
  | .sawFault => 0x18
  | .estop => 0x19
  | .notInChain => 0x1A

/-! ### Ports -/

/-- One port. -/
def State.port (s : State) (p : Port) : PortLink := s.ports.get p

/-- One port replaced. -/
def State.setPort (s : State) (p : Port) (l : PortLink) : State :=
  { s with ports := s.ports.set p l }

/-- The Notice Unit's share of one port. -/
def State.notices (s : State) (p : Port) : NoticePort := s.ntu.get p

/-- The Notice Unit's share of one port replaced. -/
def State.setNotices (s : State) (p : Port) (n : NoticePort) : State :=
  { s with ntu := s.ntu.set p n }

/-- A link fault with the bytes of its frame: its kind's status is set, and an empty first-error record
takes the kind and at most the first eight bytes (R159). -/
def LinkFaults.record (f : LinkFaults) (k : LinkKind) (frame : List Byte) : LinkFaults :=
  { status := f.status ||| (1#6 <<< k.ctorIdx)
    first := if f.first.isNone then some (k, frame.take 8) else f.first }

/-- A link fault on a port (R159). -/
def State.linkFault (s : State) (p : Port) (k : LinkKind) (frame : List Byte) : State :=
  s.setPort p { s.port p with faults := (s.port p).faults.record k frame }

/-- The time of the last byte of the request a port has in hand; now, for a request that came otherwise
(log 23). -/
def State.requestTime (s : State) (p : Port) : Time :=
  match (s.port p).tx with
  | .inHand t _ => t
  | _ => s.timebase

/-- SETUP_EN as it stood when the request in hand was taken; now, for a request that came otherwise
(R156 step 3; log 23). -/
def State.setupAt (s : State) (p : Port) : Bool :=
  match (s.port p).tx with
  | .inHand _ setup => setup
  | _ => s.setupEn

/-- The response formed: code, result, the number of notices waiting after any change the request made
to the queue, and data (R157; log 18). -/
def State.answer (s : State) (p : Port) (code : Byte) (r : Result) (data : List Byte) : State :=
  s.setPort p
    { s.port p with
      tx := .ready (s.requestTime p)
        { code := code, result := r, waiting := (s.notices p).queue.length, data := data } }

/-- A block's taking of a request: the state it leaves, the result and the data. -/
abbrev Taking := State × Result × List Byte

/-- A request taken (R156 steps 3 and 4, R157): a port the catalogue does not permit is answered DENIED;
otherwise the owning block takes it. MALFORMED and DENIED are recorded as link faults. Before start-up
completes no request is taken (R162). -/
def State.request (s : State) (n : RequestName) (i : Instr) (p : Port) (body : State → Taking) : State :=
  s.whenRunning fun s =>
    if n.permits p (s.setupAt p) then
      let t := body s
      let s := t.1
      let s :=
        match t.2.1 with
        | .malformed => s.linkFault p .malformed i.frame
        | .denied => s.linkFault p .denied i.frame
        | _ => s
      s.answer p n.code t.2.1 t.2.2
    else (s.linkFault p .denied i.frame).answer p n.code .denied []

/-- A taking that changes nothing and answers without data. -/
def State.refuse (s : State) (r : Result) : Taking := (s, r, [])

/-- A taking that answers DONE without data. -/
def State.done (s : State) : Taking := (s, .done, [])

end Sys2Proof.Machine
end

