-- ==== Sys2Proof/Machine/AdmissionUnit.lean ====
section
/-! DEFINITION. The Admission Unit (chapter 4): headroom, reservations, grants, displacement for the saw
and the saw wait's settings. -/

namespace Sys2Proof.Machine

/-- The effective reserve: doubled while the reference is not the crystal (R53). -/
def State.reserveEff (s : State) : Nat :=
  if s.adu.crystal then s.settings.admission.reserve else 2 * s.settings.admission.reserve

/-- The sum of the watts of the records held (R54). -/
def heldWatts (table : List Reservation) : Nat := (table.map (·.watts)).sum

/-- The headroom, in signed watts (R54). -/
def State.headroom (s : State) : Int :=
  (s.adu.floor : Int) - s.reserveEff - heldWatts s.adu.table

/-- The watts a grant of an entry would take: its declared watts, or for entry 14 the surge of the saw
request (R63). -/
def State.grantWatts (s : State) (e : Entry) : Nat :=
  if e = sawEntry then (s.adu.saw.map (·.surge)).getD (s.load e).fields.watts
  else (s.load e).fields.watts

/-- A record has arrived: the ballast has given up at least half of its watts since the grant (R58). -/
def hasArrived (wd : Nat) (r : Reservation) : Bool :=
  decide (((r.watts + 1) / 2 : Nat) ≤ (r.wdRef : Int) - wd)

/-- A record ended: it leaves the table and its entry goes from RESERVED to ON (R58, R59, R75). -/
def State.endReservation (s : State) (r : Reservation) (cause : MoveCause) : State :=
  let s := { s with adu := { s.adu with table := s.adu.table.filter (fun x => x.slot ≠ r.slot) } }
  if (s.entryState r.entry).isReserved then s.moveEntry r.entry .on cause else s

/-- Release by arrival (R58). -/
def State.arrive (s : State) (r : Reservation) : State :=
  (s.endReservation r .arrived).notice .reservationEnded r.entry.val 0

/-- Stage 2 of a regulation record: every held record that has arrived is released, in slot order
(R56). -/
def State.arrivals (s : State) (wd : Nat) : State :=
  (s.adu.table.filter (hasArrived wd)).foldl State.arrive s

/-- The lowest-numbered free slot (R55). -/
def freeSlot (table : List Reservation) : Option (Fin 4) :=
  [(0 : Fin 4), 1, 2, 3].find? (fun k => !(table.any (fun r => r.slot == k)))

/-- A record placed in slot order. -/
def insertRecord (r : Reservation) : List Reservation → List Reservation
  | [] => [r]
  | x :: xs => if r.slot ≤ x.slot then r :: x :: xs else x :: insertRecord r xs

/-- The restore spacing has elapsed since the last grant (R63). -/
def State.spacingElapsed (s : State) : Bool :=
  match s.adu.lastGrant with
  | none => true
  | some t => decide (s.settings.admission.restoreSpacing * 1000 ≤ s.elapsed t)

/-- The conditions under which the queue is examined, but for the queue's own (R63). -/
def State.mayExamine (s : State) : Bool :=
  decide (s.adu.table.length < 4) && s.spacingElapsed
    && (s.shc.state == .normal || s.shc.state == .confirming) && !s.tsv.latch

/-- The entry's record at a grant (R55). -/
def State.recordFor (s : State) (e : Entry) (slot : Fin 4) (r : RegRecord) : Reservation :=
  { slot := slot, entry := e, watts := s.grantWatts e, wdRef := r.wd, time := r.time,
    origin := if e = sawEntry then .sawStart else .restore }

/-- A grant of the head of the queue (R64): record, entry to RESERVED with load-not-seen cleared, relay
closed or the Sequencer signalled to begin, spacing restarted. -/
def State.grant (s : State) (e : Entry) (slot : Fin 4) (r : RegRecord) : State :=
  let held := s.recordFor e slot r
  let s := s.setLoad e { s.load e with notSeen := false }
  let s := s.moveEntry e (.reserved slot) .grant
  let s :=
    { s with
      adu := { s.adu with table := insertRecord held s.adu.table, lastGrant := some r.time } }
  if e = sawEntry then s.post .beginSignal else s

/-- One chain entry of the displacement walk (R66): one that is ON and deferrable goes to DISPLACED
while the sum has not reached the shortfall and the list has room. -/
def displaceOne (shortfall : Int) (acc : State × Nat) (e : Entry) : State × Nat :=
  let s := acc.1
  if (acc.2 : Int) < shortfall ∧ s.adu.displaced.length < 14 ∧ s.entryState e = .on
      ∧ (s.load e).fields.deferrable = true then
    let t := s.moveEntry e .displaced .displaced
    ({ t with adu := { t.adu with displaced := t.adu.displaced ++ [e] } },
      acc.2 + (s.load e).fields.watts)
  else acc

/-- Displacement for the saw, with its shortfall; the displacement-done mark is set (R66). -/
def State.displace (s : State) (shortfall : Int) : State :=
  let t := (s.ltc.chain.foldl (displaceOne shortfall) (s, 0)).1
  { t with adu := { t.adu with saw := t.adu.saw.map (fun q => { q with displaced := true }) } }

/-- Displacement is due for a saw at the head that does not fit (R63, R66). -/
def State.mayDisplace (s : State) (e : Entry) : Bool :=
  decide (e = sawEntry) && (s.adu.saw.elim false (fun q => q.displace && !q.displaced))
    && s.sws.stage == .waiting

/-- The saw is refused: its wait has expired (R68). -/
def State.sawRefused (s : State) : Bool := s.adu.saw.elim false (·.refused)

/-- The queue as an examination finds it: without a saw whose wait has expired, which leaves the queue by
the report of the saw stopped (R68: "another head or an empty queue"; log 27). -/
def State.examined (s : State) : List Entry :=
  if s.sawRefused then s.adu.queue.erase sawEntry else s.adu.queue

/-- Stage 3 of a regulation record: the queue examined for a grant (R63). -/
def State.examine (s : State) (r : RegRecord) : State :=
  match s.examined, freeSlot s.adu.table with
  | e :: _, some slot =>
    if s.mayExamine then
      let room := s.headroom - s.grantWatts e
      if 0 ≤ room then s.grant e slot r
      else if s.mayDisplace e then s.displace (-room)
      else s
    else s
  | _, _ => s

/-- RECORD_AT_ADMISSION (R56): floor, arrivals, examination. -/
def execRecordAtAdmission (r : RegRecord) (s : State) : Answer :=
  .next <| s.whenRunning fun s =>
    ({ s with adu := { s.adu with floor := r.floor } }.arrivals r.wd).examine r

/-- REG_STATE_AT_ADMISSION (R57). -/
def execRegStateAtAdmission (c : RegChange) (s : State) : Answer :=
  .next <| s.whenRunning fun s => { s with adu := { s.adu with floor := c.floor } }

/-- The record in a slot, when its settle window has run out by the setting as it stands (R59). -/
def State.expiredRecord (s : State) (slot : Fin 4) : Option Reservation :=
  s.adu.table.find? fun r =>
    r.slot == slot && decide (s.settings.admission.settleWindow * 1000 ≤ s.elapsed r.time)

/-- Release by expiry: load-not-seen set, LOAD NOT SEEN raised (R59). -/
def State.expireRecord (s : State) (r : Reservation) : State :=
  let s := s.endReservation r .notSeen
  let s := s.setLoad r.entry { s.load r.entry with notSeen := true }
  (s.raise .loadNotSeen).notice .reservationEnded r.entry.val 1

/-- The record in a slot expires when its window has run out. -/
def State.expireSlot (s : State) (slot : Fin 4) : State :=
  match s.expiredRecord slot with
  | some r => s.expireRecord r
  | none => s

/-- RESERVATION_EXPIRY (R59). -/
def execReservationExpiry (slot : Fin 4) (s : State) : Answer :=
  .next <| s.whenRunning fun s => s.expireSlot slot

/-- 30,000 ms, the greatest restore spacing, have passed since the last grant (R63). -/
def State.lastGrantOld (s : State) : Bool := s.ranOut s.adu.lastGrant 30000000

/-- LAST_GRANT_TIME_EMPTIED (R63). -/
def execLastGrantTimeEmptied (s : State) : Answer :=
  .next <| s.whenRunning fun s =>
    if s.lastGrantOld then { s with adu := { s.adu with lastGrant := none } } else s

/-- The saw at SAW OFF, as the Admission Unit takes it (R67): every entry of the displaced list still
DISPLACED returns to WAITING in list order, and the list is emptied. -/
def State.returnDisplaced (s : State) : State :=
  let back := s.adu.displaced.foldl
    (fun s e => if s.entryState e = .displaced then s.moveEntry e .waiting .sawReturn else s) s
  { back with adu := { back.adu with displaced := [] } }

end Sys2Proof.Machine
end

