-- ==== Sys2Proof/Machine/Faults.lean ====
section
/-! DEFINITION. The Fault Unit (section 11.4): raises, CLEAR FAULTS and READ FAULTS. -/

namespace Sys2Proof.Machine

/-- FAULT_RAISE (R172, R174, R175). -/
def execFaultRaise (raised : FaultRaise) (s : State) : Answer :=
  .next <| s.whenReleased fun s => s.takeRaise raised

/-- The statuses of the kinds named cleared, a snapshot of one of them emptied, ALARM following
(R173, R174). -/
def State.clearStatuses (s : State) (kinds : FaultSet) : State :=
  { s with
    flu :=
      { s.flu with
        status := s.flu.status &&& ~~~kinds
        snapshot := s.flu.snapshot.filter (fun x => !kinds.getLsbD x.kind.number) } }.judgeAlarm

/-- CLEAR_FAULTS (R173); bits 13 to 15 of the set are ignored. -/
def execClearFaults (p : Port) (kinds : Half) (s : State) : Answer :=
  .next <| s.request .clearFaults (.clearFaults p kinds) p fun s =>
    (s.clearStatuses (kinds.setWidth 13)).done

/-- The bytes of the first-fault snapshot; an empty one reads as zeros (R173). -/
def snapshotBytes : Option Snapshot → List Byte
  | none => List.replicate 21 0
  | some x =>
    n1 x.kind.number ++ Wide.bytes x.time ++ n4 x.f ++ n2 x.d ++ n4 x.wd ++ n1 x.line.number
      ++ n1 x.reference.number ++ n1 x.regulation.number ++ n1 x.shed.number ++ n1 x.saw.number
      ++ flagByte x.latch

/-- READ_FAULTS (R173). -/
def execReadFaults (p : Port) (s : State) : Answer :=
  .next <| s.request .readFaults (.readFaults p) p fun s =>
    (s, .done,
      n2 s.flu.status.toNat ++ n2 s.settings.device.masks.toNat ++ n2 s.settings.device.alarms.toNat
        ++ flagByte s.flu.alarm ++ flagByte s.flu.snapshot.isSome ++ snapshotBytes s.flu.snapshot)

end Sys2Proof.Machine
end

