-- ==== Sys2Proof/Machine/Regulator.lean ====
section
/-! DEFINITION. The Ballast Regulator (chapter 2): shadow transfer, regulation states and the update. -/

namespace Sys2Proof.Machine

/-- The sum of the ratings of the available banks (section 2.1). -/
def rtotOf (banks : PerBank BankParams) : Nat :=
  (if banks.b0.available then banks.b0.rating else 0)
    + (if banks.b1.available then banks.b1.rating else 0)
    + (if banks.b2.available then banks.b2.rating else 0)

/-- Rtot, from the active copy. -/
def State.rtot (s : State) : Nat := rtotOf s.brg.active.banks

/-- The demand in watts (R32). -/
def wattsOf (d rtot : Nat) : Nat := d * rtot / 1000

/-- The floor: the least value in the ring, or 0 when it is empty (R35). -/
def floorOf : List Nat → Nat
  | [] => 0
  | x :: xs => xs.foldl min x

/-- The demand change given to the Bank Firing Unit, with the active ratings and flags (R26). -/
def State.giveDemand (s : State) : State :=
  s.post (.demandChange { d := s.brg.d, wd := s.brg.wd, banks := some s.brg.active.banks })

/-- The change of regulation state made known, with D, Wd, the floor and the flags as they stand
(R25). -/
def State.announceRegulation (s : State) : State :=
  let c : RegChange :=
    { state := s.brg.state, d := s.brg.d, wd := s.brg.wd, floor := floorOf s.brg.ring,
      satHigh := s.brg.satHigh, exhausted := s.brg.exhausted }
  s.postAll
    [.regStateAtFiring c, .regStateAtAdmission c, .regStateAtShed c, .regStateAtTurbine c]

/-- A transfer of the shadow copy (R23); `how` is 0 at once, 1 at a period, 2 on leaving REGULATING.
What it does to the regulation state is `settleRegulation`'s. -/
def State.transfer (s : State) (how : Nat) : State :=
  let old := s.brg.active
  let new := s.brg.shadow
  let moved := decide (new.banks ≠ old.banks)
  let rtotMoved := decide (rtotOf new.banks ≠ rtotOf old.banks)
  let b :=
    { s.brg with
      active := new
      transferEnable := false
      firstUpdate := s.brg.firstUpdate || decide (new.fSet ≠ old.fSet)
      wd := if moved then wattsOf s.brg.d (rtotOf new.banks) else s.brg.wd
      ring := if rtotMoved then [] else s.brg.ring }
  let s := { s with brg := b }.notice .regulationApplied 0 how
  if moved then s.giveDemand else s

/-- The state the table of section 2.2 gives for an enable and a line state. -/
def regStateFor (enable : Bool) (l : LineState) : RegState :=
  if enable then (if l = .present then .regulating else .holding) else .stopped

/-- What leaving REGULATING clears and sets (R27). -/
def Ballast.leftRegulating (b : Ballast) : Ballast :=
  { b with ring := [], satHigh := false, exhausted := false, satCount := 0, firstUpdate := true }

/-- A change to a state given, made known (R25). -/
def State.enterRegulation (s : State) (r : RegState) : State :=
  { s with brg := { s.brg with state := r } }.announceRegulation

/-- The regulation state brought to what the active enable and the line state give (R25). Leaving
REGULATING with the transfer-enable flag set makes the transfer at that moment (R24), and an enable it
turns to no takes the regulator on from HOLDING to BALLAST STOPPED. -/
def State.settleRegulation (s : State) : State :=
  let dest := regStateFor s.brg.active.enable s.brg.line
  if s.brg.state = dest then s
  else if s.brg.state = .regulating then
    let left := { s with brg := { s.brg.leftRegulating with state := dest } }
    if s.brg.transferEnable then
      let t := (left.transfer 2).announceRegulation
      let next := regStateFor t.brg.active.enable t.brg.line
      if t.brg.state = next then t else t.enterRegulation next
    else left.announceRegulation
  else s.enterRegulation dest

/-- A change of D or of Wd outside an update, from values that stood before, is given to the Bank Firing
Unit (R26); values that stand as they were are not (DEDUCED, log 39). -/
def State.giveChange (s : State) (d wd : Nat) : State :=
  if s.brg.d = d ∧ s.brg.wd = wd then s else s.giveDemand

/-- D at the start demand, on entry to LINE ABSENT (R26). -/
def State.startDemand (s : State) : State :=
  let d := s.brg.active.startDemand
  { s with brg := { s.brg with d := d, wd := wattsOf d s.rtot } }.giveChange s.brg.d s.brg.wd

/-- LINE_STATE_AT_REGULATOR (R24 to R27). -/
def execLineStateAtRegulator (l : LineState) (s : State) : Answer :=
  .next <| s.whenRunning fun s =>
    let t := { s with brg := { s.brg with line := l } }.settleRegulation
    if l = .absent then t.startDemand else t

/-- APPLY_REGULATION (R22). -/
def execApplyRegulation (p : Port) (s : State) : Answer :=
  .next <| s.request .applyRegulation (.applyRegulation p) p fun s =>
    if s.brg.state = .regulating then
      { s with brg := { s.brg with transferEnable := true } }.done
    else ((s.transfer 0).settleRegulation).done

/-- Stage 1: the error, clamped (R29). -/
def errorOf (f fSet : Nat) : Int := clampInt (-5000) 5000 ((f : Int) - fSet)

/-- Stage 2: the step of the demand (R30). -/
def stepOf (kp ki : Nat) (e ePrev : Int) : Int := roundNearest (kp * (e - ePrev) + ki * e) 1024

/-- Stage 2: the demand moved and clamped (R30). -/
def demandAfter (d : Nat) (step : Int) : Nat := (clampInt 0 1000 ((d : Int) + step)).toNat

/-- The ballast average moved one sixty-fourth of the way (R34). -/
def averageAfter (a d : Nat) : Nat := ((a : Int) + roundNearest (16 * d - a) 64).toNat

/-- The floor ring with a value at its newest end, never more than sixteen (R35). -/
def pushFloor (ring : List Nat) (wd : Nat) : List Nat :=
  (ring ++ [wd]).drop ((ring ++ [wd]).length - 16)

/-- The saturation count after an update (R33). -/
def satCountAfter (count : Nat) (sat : Bool) : Nat := if sat then min 50 (count + 1) else 0

/-- The regulator after an update at frequency f, in the four stages and what follows them
(R29 to R36). -/
def Ballast.updated (b : Ballast) (f : Nat) (now : Time) : Ballast :=
  let e := errorOf f b.active.fSet
  let ePrev := if b.firstUpdate then e else b.ePrev
  let d := demandAfter b.d (stepOf b.active.kp b.active.ki e ePrev)
  let wd := wattsOf d (rtotOf b.active.banks)
  let sat := satHighFlag d e
  let exh := exhaustedFlag d e
  let a := averageAfter b.a d
  let ring := pushFloor b.ring wd
  { b with
    d := d, wd := wd, a := a, ePrev := e, lastError := e, ring := ring, satHigh := sat,
    exhausted := exh, satCount := satCountAfter b.satCount sat, firstUpdate := false,
    record :=
      some
        { f := f, e := e, d := d, wd := wd, floor := floorOf ring, a := a, satHigh := sat,
          exhausted := exh, state := .regulating, time := now } }

/-- The record published to its four takers (R36). -/
def State.publish (s : State) (r : RegRecord) : State :=
  s.postAll [.recordAtFiring r, .recordAtAdmission r, .recordAtShed r, .recordAtTurbine r]

/-- BALLAST SATURATED is raised when the count reaches 50, and at each later SAT HIGH update at which
its status is clear (R33). -/
def State.raisesSaturated (s : State) (after : Ballast) : Bool :=
  decide (after.satCount = 50)
    && (decide (s.brg.satCount < 50) || !s.flu.status.getLsbD FaultKind.ballastSaturated.number)

/-- The update (R28 to R36) with its raises (R33) and its record. R33 gives the two raises of one update no
order. The model raises BALLAST SATURATED ahead of BALLAST NONE, and the Fault Unit takes them so (DESIGN
CHOICE, log 55). -/
def State.update (s : State) (f : Nat) : State :=
  let b := s.brg.updated f s.timebase
  let t := { s with brg := b }
  let t := if s.raisesSaturated b then t.raise .ballastSaturated else t
  let t := if s.rtot = 0 then t.raise .ballastNone else t
  match b.record with
  | some r => t.publish r
  | none => t

/-- A valid period in REGULATING: a transfer that is due first (R23), then the update when the enable is
still yes (R28). -/
def State.takeUpdate (s : State) (f : Nat) : State :=
  let s := if s.brg.transferEnable then (s.transfer 1).settleRegulation else s
  if s.brg.state = .regulating then s.update f else s

/-- REGULATION_UPDATE (R25, R28): the period's line state is taken first. -/
def execRegulationUpdate (v : ValidPeriod) (s : State) : Answer :=
  .next <| s.whenRunning fun s =>
    let l := if v.present.isSome then LineState.present else LineState.establishing
    let t := { s with brg := { s.brg with line := l } }.settleRegulation
    match v.present with
    | some (_, f) => if t.brg.state = .regulating then t.takeUpdate f else t
    | none => t

end Sys2Proof.Machine
end

