-- ==== Sys2Proof/Machine/FiringUnit.lean ====
section
/-! DEFINITION. The Bank Firing Unit (chapter 3): filling the banks, delays, latching, gate pulses. -/

namespace Sys2Proof.Machine

/-- One bank filled from the amount left: its trim, and what is left after it (R41). -/
def fillBank (left : Nat) (b : BankParams) : Nat × Nat :=
  if !b.available || b.rating == 0 then (0, left)
  else if b.rating ≤ left then (1000, left - b.rating)
  else if 0 < left then ((roundNearest (1000 * left) b.rating).toNat, 0)
  else (0, 0)

/-- The next allocation: the banks filled in the order 0, 1, 2 from the demand in watts (R41). -/
def allocate (wd : Nat) (banks : PerBank BankParams) : PerBank Nat :=
  let x0 := fillBank wd banks.b0
  let x1 := fillBank x0.2 banks.b1
  let x2 := fillBank x1.2 banks.b2
  ⟨x0.1, x1.1, x2.1⟩

/-- The fixed firing table: delay fractions in 1/4096 of a half-period (section 3.4). -/
def firingTable : List Nat := [4096, 2945, 2590, 2307, 2048, 1789, 1506, 1151, 0]

/-- The delay fraction of a trim from 1 to 1000 (R43). -/
def delayFraction (q : Nat) : Nat :=
  if q = 1000 then 0
  else
    let i := q / 125
    let r := q % 125
    let t := firingTable.getD i 0
    t - ((t - firingTable.getD (i + 1) 0) * r + 62) / 125

/-- The delay in µs against the half-period, not below 150 µs (R44). -/
def delayOf (q h : Nat) : Nat := max 150 (delayFraction q * h / 4096)

/-- A bank of the current set (R43 to R45). -/
def bankSetOf (h q : Nat) : BankSet :=
  if q = 0 then { q := 0, delay := none, mark := .notFired }
  else
    { q := q, delay := some (delayOf q h),
      mark := if delayOf q h + 400 ≤ h then .fired else .heldOff }

/-- The firing state of the table of section 3.2. -/
def Firing.due (u : Firing) : FiringState :=
  if u.reg ≠ .stopped ∧ u.line ≠ .absent ∧ rtotOf u.banks ≠ 0 then .firing else .off

/-- The firing state set by the table (R39). Leaving FIRING removes every pulse not begun and empties
the current set (R49). -/
def Firing.settle (u : Firing) : Firing :=
  match u.due with
  | .firing => { u with state := .firing }
  | .off => { u with state := .off, current := none, schedule := ⟨none, none, none⟩ }

/-- A new next allocation from a demand in watts (R40, R41). -/
def Firing.demand (u : Firing) (wd : Nat) : Firing := { u with next := some (allocate wd u.banks) }

/-- RECORD_AT_FIRING (R40). -/
def execRecordAtFiring (r : RegRecord) (s : State) : Answer :=
  .next <| s.whenRunning fun s => { s with bfu := s.bfu.demand r.wd }

/-- DEMAND_CHANGE (R26, R39, R40). -/
def execDemandChange (c : DemandChange) (s : State) : Answer :=
  .next <| s.whenRunning fun s =>
    match c.banks with
    | some banks => { s with bfu := ({ s.bfu with banks := banks }.demand c.wd).settle }
    | none => { s with bfu := s.bfu.demand c.wd }

/-- REG_STATE_AT_FIRING (R39, R40). -/
def execRegStateAtFiring (c : RegChange) (s : State) : Answer :=
  .next <| s.whenRunning fun s => { s with bfu := ({ s.bfu with reg := c.state }.demand c.wd).settle }

/-- LINE_STATE_AT_FIRING (R39). -/
def execLineStateAtFiring (l : LineState) (s : State) : Answer :=
  .next <| s.whenRunning fun s => { s with bfu := { s.bfu with line := l }.settle }

/-- The current set latched at a half-cycle start when it is due: at a rising edge, or with the set
empty (R46). -/
def Firing.latch (u : Firing) (c : HalfCycle) : Firing :=
  match u.next with
  | some next =>
    if c.polarity = .rising ∨ u.current = none then
      { u with current := some { h := c.h, banks := next.map (bankSetOf c.h) } }
    else u
  | none => u

/-- The due time of a bank's pulse in the half-cycle that starts at a time: one for a bank marked FIRED
(R47). -/
def pulseDue (start : Time) (b : BankSet) : Option Time :=
  match b.mark, b.delay with
  | .fired, some d => some (start + BitVec.ofNat 32 d)
  | _, _ => none

/-- The pulses of the half-cycle scheduled; those of the one before that have not begun are removed
(R47, R48). -/
def Firing.scheduleFrom (u : Firing) (start : Time) : Firing :=
  match u.current with
  | some set => { u with schedule := set.banks.map (pulseDue start) }
  | none => { u with schedule := ⟨none, none, none⟩ }

/-- HALF_CYCLE_START (R46 to R48). -/
def execHalfCycleStart (c : HalfCycle) (s : State) : Answer :=
  .next <| s.whenRunning fun s =>
    if s.bfu.state = .firing then { s with bfu := (s.bfu.latch c).scheduleFrom c.time } else s

/-- A bank's scheduled pulse has fallen due. -/
def State.pulseIsDue (s : State) (b : Bank) : Bool :=
  match s.bfu.schedule.get b with
  | some t => s.reached t
  | none => false

/-- GATE_PULSE_DUE (R47): BGk goes high, or stays high, and the pulse leaves the schedule. -/
def execGatePulseDue (b : Bank) (s : State) : Answer :=
  .next <| s.whenRunning fun s =>
    if s.pulseIsDue b then
      { s with
        bfu :=
          { s.bfu with
            gates := s.bfu.gates.set b (s.bfu.schedule.get b)
            schedule := s.bfu.schedule.set b none } }
    else s

/-- A bank's pulse has run 250 µs from its due time. -/
def State.pulseIsOver (s : State) (b : Bank) : Bool := s.ranOut (s.bfu.gates.get b) 250

/-- GATE_PULSE_END (R47). -/
def execGatePulseEnd (b : Bank) (s : State) : Answer :=
  .next <| s.whenRunning fun s =>
    if s.pulseIsOver b then
      { s with bfu := { s.bfu with gates := s.bfu.gates.set b none } }
    else s

end Sys2Proof.Machine
end

