-- ==== Sys2Proof/Machine/Line.lean ====
section
/-! DEFINITION. The Line Monitor (sections 1.3 to 1.6): edges, periods, frequency and half-period,
absence and source switches. -/

namespace Sys2Proof.Machine

/-- The line in a new state: LINE STATE given (R19), and the change made known to the Ballast
Regulator, the Shed Controller, the Turbine Supervisor and the Bank Firing Unit (R16). -/
def State.changeLine (s : State) (m : LineMonitor) : State :=
  ({ s with lnm := m }.notice .lineState 0 m.state.number).postAll
    [.lineStateAtRegulator m.state, .lineStateAtShed m.state, .lineStateAtTurbine m.state,
     .lineStateAtFiring m.state]

/-- The frequency in mHz from the ring sum (R14). -/
def frequencyOf (sum : Nat) : Nat := (4000000000 + sum / 2) / sum

/-- The half-period in LINE ESTABLISHING (R15). -/
def singlePeriodH (pLast : Option Nat) : Nat := pLast.elim 10000 (· / 2)

/-- One more on a counter that saturates at 65,535 (R10, R12). -/
def saturatingSucc (n : Nat) : Nat := min 65535 (n + 1)

/-- The period ring with a valid period at its newest end, never more than four (R13). -/
def pushPeriod (ring : List Nat) (p : Nat) : List Nat :=
  (ring ++ [p]).drop ((ring ++ [p]).length - 4)

/-- The ring cleared by invalid periods or a source switch: a present line falls back to LINE
ESTABLISHING, with H from the last single period (R12, R15, R18). -/
def State.clearRing (s : State) (m : LineMonitor) : State :=
  match m.state with
  | .present =>
    s.changeLine { m with ring := [], state := .establishing, h := singlePeriodH m.pLast }
  | _ => { s with lnm := { m with ring := [] } }

/-- An invalid period (R12, case 2). -/
def State.invalidPeriod (s : State) : State :=
  let m := { s.lnm with rejectedPeriods := saturatingSucc s.lnm.rejectedPeriods }
  if s.lnm.invalid + 1 = 3 then s.clearRing { m with invalid := 0 }
  else { s with lnm := { m with invalid := s.lnm.invalid + 1 } }

/-- A valid period (R13, R16): into the ring, LINE PRESENT with four, f and H, and on to the Ballast
Regulator. -/
def State.validPeriod (s : State) (p : Nat) : State :=
  let ring := pushPeriod s.lnm.ring p
  let m := { s.lnm with ring := ring, pLast := some p, invalid := 0 }
  let sum := ring.sum
  if ring.length = 4 ∧ s.lnm.state = .establishing then
    (s.changeLine { m with state := .present, f := frequencyOf sum, h := sum / 8 }).post
      (.regulationUpdate { period := p, present := some (sum, frequencyOf sum) })
  else if s.lnm.state = .present then
    { s with lnm := { m with f := frequencyOf sum, h := sum / 8 } }.post
      (.regulationUpdate { period := p, present := some (sum, frequencyOf sum) })
  else
    { s with lnm := { m with h := singlePeriodH (some p) } }.post
      (.regulationUpdate { period := p, present := none })

/-- A completed period, in the order of R12. -/
def State.takePeriod (s : State) (p : Nat) : State :=
  if s.lnm.discard then { s with lnm := { s.lnm with discard := false } }
  else if p < 16000 ∨ 25000 < p then s.invalidPeriod
  else s.validPeriod p

/-- An accepted edge recorded, the absence timer restarted and LINE ABSENT left (R11). -/
def State.recordEdge (s : State) (p : Polarity) : State :=
  let m :=
    { s.lnm with lastEdge := some { polarity := p, time := s.timebase }, absence := some s.timebase }
  if m.state = .absent then
    s.changeLine { m with state := .establishing, h := singlePeriodH m.pLast }
  else { s with lnm := m }

/-- The edge handled by polarity (R11). -/
def State.captureEdge (s : State) (p : Polarity) : State :=
  match p with
  | .falling => { s with lnm := { s.lnm with lastFall := some s.timebase } }
  | .rising =>
    let prev := s.lnm.lastRise
    let s := { s with lnm := { s.lnm with prevRise := prev, lastRise := some s.timebase } }
    match prev with
    | some t => s.takePeriod (s.elapsed t)
    | none => s

/-- An accepted edge (R11), announced last of all as a half-cycle start with the H then standing. -/
def State.acceptEdge (s : State) (p : Polarity) : State :=
  let s := (s.recordEdge p).captureEdge p
  s.post (.halfCycleStart { polarity := p, time := s.timebase, h := s.lnm.h })

/-- LINE_ZC_EDGE (R9 to R13): judged, and counted when it is rejected. -/
def execLineZcEdge (p : Polarity) (s : State) : Answer :=
  .next <| s.whenRunning fun s =>
    if s.acceptsEdge p then s.acceptEdge p
    else { s with lnm := { s.lnm with rejectedEdges := saturatingSucc s.lnm.rejectedEdges } }

/-- 40,000 µs have passed since the last accepted edge of a line not absent (R17). -/
def State.absenceDue (s : State) : Bool :=
  decide (s.lnm.state ≠ .absent) && s.ranOut s.lnm.absence 40000

/-- The measurement cleared on entry to LINE ABSENT (R17); the two counters are kept. -/
def LineMonitor.cleared (m : LineMonitor) : LineMonitor :=
  { m with
    state := .absent, lastEdge := none, lastRise := none, prevRise := none, lastFall := none,
    ring := [], pLast := none, invalid := 0, discard := false, f := 0, h := 10000, absence := none }

/-- ABSENCE_TIMER_EXPIRY (R17). -/
def execAbsenceTimerExpiry (s : State) : Answer :=
  .next <| s.whenRunning fun s =>
    if s.absenceDue then
      let t := s.changeLine s.lnm.cleared
      if s.lnm.state = .present then t.raise .lineLost else t
    else s

/-- SOURCE_SWITCH (R18): the ring cleared and the discard mark set, by line state. -/
def execSourceSwitch (s : State) : Answer :=
  .next <| s.whenReleased fun s =>
    match s.lnm.state with
    | .absent => s
    | _ => s.clearRing { s.lnm with discard := true }

end Sys2Proof.Machine
end

