-- ==== Sys2Proof/Machine/LoadTableController.lean ====
section
/-! DEFINITION. The Load Table Controller (chapter 5): entry writes and their consequences, fills, the
shed chain, slot applications, line loss and restart. -/

namespace Sys2Proof.Machine

/-! ### Writing an entry (section 5.4) -/

/-- The port may write the entry: its region, or SETUP_EN (R82). -/
def State.mayWrite (s : State) (p : Port) (e : Entry) : Bool :=
  s.setupEn
    || (decide (s.settings.device.regionLow.get p ≤ e.val)
        && decide (e.val ≤ s.settings.device.regionHigh.get p))

/-- The fields as a write through a mask leaves them, declared watts at most 30,000 (R83). -/
def mergeFields (mask : FieldMask) (old new : Fields) : Fields :=
  { wanted := if mask.getLsbD 0 then new.wanted else old.wanted
    startWanted := if mask.getLsbD 1 then new.startWanted else old.startWanted
    essential := if mask.getLsbD 2 then new.essential else old.essential
    deferrable := if mask.getLsbD 3 then new.deferrable else old.deferrable
    member := if mask.getLsbD 4 then new.member else old.member
    watts := if mask.getLsbD 5 then min maxWatts new.watts else old.watts }

/-- The one move a write makes, by the first row of the table of R86 that applies. The fields are stored
already; `old` is what they were. -/
def State.writeMove (s : State) (e : Entry) (old : Fields) : State :=
  let now := (s.load e).fields
  let st := s.entryState e
  if !old.wanted && now.wanted && st == .off then s.wantEntry e .wantedSet
  else if old.wanted && !now.wanted then
    if st == .off then s else s.moveEntry e .off .wantedCleared
  else if old.member && !now.member && st == .rotaOff then s.moveEntry e .waiting .memberCleared
  else if !old.member && now.member && s.rotaExcludes e && st != .off && st != .rotaOff then
    s.moveEntry e .rotaOff .rotaExclude
  else s

/-- The requeue of a WAITING entry whose essential mark a write has changed (R62, R86). -/
def State.requeue (s : State) (e : Entry) : State :=
  { s with
    adu :=
      { s.adu with
        queue := s.queueWith (s.adu.queue.erase e) e (s.load e).fields.essential } }

/-- The consequences of a write (R86): at most one move, then at most one requeue. -/
def State.writeConsequences (s : State) (e : Entry) (old : Fields) : State :=
  let t := s.writeMove e old
  if (t.load e).fields.essential ≠ old.essential ∧ t.entryState e = .waiting then t.requeue e else t

/-- Fields stored in an entry. -/
def State.storeFields (s : State) (e : Entry) (f : Fields) : State :=
  s.setLoad e { s.load e with fields := f }

/-- Steps 2 to 4 of a permitted write (R83): conflicts, store, consequences. -/
def State.writeFields (s : State) (e : Entry) (mask : FieldMask) (new : Fields) : State × Result :=
  let old := (s.load e).fields
  let after := mergeFields mask old new
  if s.writeConflicts e mask after then (s, .conflict)
  else
    ((s.storeFields e after).writeConsequences e old,
      if mask.getLsbD 5 && decide (maxWatts < new.watts) then .clamped else .done)

/-- A write of one entry by a port: access, then steps 2 to 4 (R83). -/
def State.writeAs (s : State) (p : Port) (e : Entry) (mask : FieldMask) (new : Fields) :
    State × Result :=
  if s.mayWrite p e then s.writeFields e mask new else (s, .denied)

/-- WRITE_ENTRY (R83). -/
def execWriteEntry (p : Port) (entry flags : Byte) (watts : Half) (mask : Option Byte) (s : State) :
    Answer :=
  .next <| s.request .writeEntry (.writeEntry p entry flags watts mask) p fun s =>
    match entryOf entry with
    | none => s.refuse .malformed
    | some e =>
      let m := (mask.map maskOf).getD (s.ltc.masks.get p)
      let x := s.writeAs p e m (fieldsOf flags watts.toNat)
      (x.1, x.2, [])

/-- The group bases of FILL ENTRIES (R88). -/
def fillBase (b : Byte) : Option Nat :=
  if b = 0 ∨ b = 4 ∨ b = 8 ∨ b = 12 then some b.toNat else none

/-- One selected entry of a fill, its result added to the list (R88). -/
def fillOne (p : Port) (acc : State × List Byte) (e : Entry) : State × List Byte :=
  let s := acc.1
  let x := s.writeAs p e (s.ltc.masks.get p) (s.ltc.fills.get p)
  (x.1, acc.2 ++ [x.2.byte])

/-- The selected entries of a group, in index order (R88). -/
def fillEntriesOf (base : Nat) (selection : Byte) : List Entry :=
  Entry.all.filter fun e =>
    decide (base ≤ e.val) && decide (e.val < base + 4) && selection.getLsbD (e.val - base)

/-- FILL_ENTRIES (R88). -/
def execFillEntries (p : Port) (base selection : Byte) (s : State) : Answer :=
  .next <| s.request .fillEntries (.fillEntries p base selection) p fun s =>
    match fillBase base with
    | none => s.refuse .malformed
    | some b =>
      let x := (fillEntriesOf b selection).foldl (fillOne p) (s, [])
      (x.1, .done, x.2)

/-- SET_FIELD_MASK (R87). -/
def execSetFieldMask (p : Port) (mask : Byte) (s : State) : Answer :=
  .next <| s.request .setFieldMask (.setFieldMask p mask) p fun s =>
    { s with ltc := { s.ltc with masks := s.ltc.masks.set p (maskOf mask) } }.done

/-- SET_FILL (R87). -/
def execSetFill (p : Port) (flags : Byte) (watts : Half) (s : State) : Answer :=
  .next <| s.request .setFill (.setFill p flags watts) p fun s =>
    let f := fieldsOf flags (min maxWatts watts.toNat)
    ({ s with ltc := { s.ltc with fills := s.ltc.fills.set p f } },
      if maxWatts < watts.toNat then .clamped else .done, [])

/-! ### The shed chain (section 5.5) -/

/-- The entry after one in the chain: `none` when it is not a member, `some none` at the end. -/
def chainLink (chain : List Entry) (e : Entry) : Option (Option Entry) :=
  match chain with
  | [] => none
  | x :: xs => if x = e then some xs.head? else chainLink xs e

/-- The chain with an entry inserted after an anchor. -/
def insertAfter (anchor e : Entry) : List Entry → List Entry
  | [] => []
  | x :: xs => if x = anchor then x :: e :: xs else x :: insertAfter anchor e xs

/-- The position byte: 0xFF for AT HEAD, otherwise the anchor's index (section 10.2). -/
def anchorOf (b : Byte) : Option (Option Entry) :=
  if b = 0xFF then some none else (entryOf b).map some

/-- A placement is refused with CONFLICT (R91). -/
def State.placeConflicts (s : State) (e : Entry) (anchor : Option Entry) : Bool :=
  (s.load e).fields.essential
    || (match anchor with
        | some a => decide (a ∉ s.ltc.chain) || decide (a = e)
        | none => false)
    || (decide (e ∉ s.ltc.chain) && decide (15 ≤ s.ltc.chain.length))

/-- The chain with an entry placed (R91). -/
def placed (chain : List Entry) (e : Entry) (anchor : Option Entry) : List Entry :=
  match anchor with
  | none => e :: chain.erase e
  | some a => insertAfter a e (chain.erase e)

/-- CHAIN_PLACE (R91). -/
def execChainPlace (p : Port) (entry anchor : Byte) (s : State) : Answer :=
  .next <| s.request .chainPlace (.chainPlace p entry anchor) p fun s =>
    match entryOf entry, anchorOf anchor with
    | some e, some a =>
      if s.placeConflicts e a then s.refuse .conflict
      else { s with ltc := { s.ltc with chain := placed s.ltc.chain e a } }.done
    | _, _ => s.refuse .malformed

/-- CHAIN_REMOVE (R92). -/
def execChainRemove (p : Port) (entry : Byte) (s : State) : Answer :=
  .next <| s.request .chainRemove (.chainRemove p entry) p fun s =>
    match entryOf entry with
    | none => s.refuse .malformed
    | some e =>
      if e ∈ s.ltc.chain then
        { s with ltc := { s.ltc with chain := s.ltc.chain.erase e } }.done
      else s.refuse .notInChain

/-- A list of entries as a count and the entries (section 10.2). -/
def listBytes (l : List Entry) : List Byte := n1 l.length ++ l.flatMap (fun e => n1 e.val)

/-- READ_CHAIN (R93). -/
def execReadChain (p : Port) (s : State) : Answer :=
  .next <| s.request .readChain (.readChain p) p fun s =>
    (s, .done, listBytes s.ltc.chain ++ listBytes s.shc.stack ++ listBytes s.adu.displaced)

/-- The shed cause: 0 absent, 1 UNDERFREQUENCY, 2 LINE LOSS (section 10.2). -/
def shedCauseNumber : EntryState → Nat
  | .shedUnderfrequency => 1
  | .shedLineLoss => 2
  | _ => 0

/-- The reservation slot, 0xFF absent (section 10.2). -/
def slotNumber : EntryState → Nat
  | .reserved k => k.val
  | _ => 0xFF

/-- A chain link: 0xFE absent, 0xFF end, otherwise the next entry (section 10.2). -/
def linkNumber : Option (Option Entry) → Nat
  | none => 0xFE
  | some none => 0xFF
  | some (some x) => x.val

/-- READ_ENTRY (R89). -/
def execReadEntry (p : Port) (entry : Byte) (s : State) : Answer :=
  .next <| s.request .readEntry (.readEntry p entry) p fun s =>
    match entryOf entry with
    | none => s.refuse .malformed
    | some e =>
      let l := s.load e
      let fill := s.ltc.fills.get p
      (s, .done,
        flagsByte l.fields ++ n2 l.fields.watts ++ n1 l.state.number ++ n1 (shedCauseNumber l.state)
          ++ flagByte l.notSeen ++ n1 (linkNumber (chainLink s.ltc.chain e)) ++ n1 (slotNumber l.state)
          ++ n1 (s.ltc.masks.get p).toNat ++ flagsByte fill ++ n2 fill.watts)

/-! ### Requests from the Rota Player and the Shed Controller -/

/-- An entry a slot application excludes (R79, R116): a rota member among 0 to 13 outside the allowed
set, in a state other than OFF and ROTA-OFF. -/
def State.slotExcludes (s : State) (allowed : AllowedSet) (e : Entry) : Bool :=
  decide (e.val < 14) && !allowed.getLsbD e.val && (s.load e).fields.member
    && s.entryState e != .off && s.entryState e != .rotaOff

/-- An entry a slot application includes (R79, R116). -/
def State.slotIncludes (s : State) (allowed : AllowedSet) (e : Entry) : Bool :=
  decide (e.val < 14) && allowed.getLsbD e.val && s.entryState e == .rotaOff

/-- A slot application (R116): exclusions to ROTA-OFF, then inclusions to WAITING. In ROTA IDLE every
member counts as allowed (section 7.5; log 28). -/
def State.applySlot (s : State) (allowed : AllowedSet) : State :=
  let set := if s.rtp.playing then allowed else allowAll
  let t := s.forEntries (fun s e => s.slotExcludes set e) (fun s e => s.moveEntry e .rotaOff .rotaExclude)
  t.forEntries (fun s e => s.slotIncludes set e) (fun s e => s.moveEntry e .waiting .rotaInclude)

/-- SLOT_APPLICATION (R116). -/
def execSlotApplication (allowed : AllowedSet) (s : State) : Answer :=
  .next <| s.whenRunning fun s => s.applySlot allowed

/-- An entry that line loss takes to SHED with cause LINE LOSS (R77). -/
def EntryState.lostWithLine : EntryState → Bool
  | .waiting | .reserved _ | .on | .displaced | .shedUnderfrequency => true
  | .off | .rotaOff | .shedLineLoss => false

/-- Line loss at one entry (R77): entry 14 to OFF with a stop, any other to SHED (LINE LOSS). -/
def State.loseEntry (s : State) (e : Entry) : State :=
  if e = sawEntry then (s.moveEntry e .off .lineLoss).stopSaw .lineLoss
  else s.moveEntry e .shedLineLoss .lineLoss

/-- LINE_LOSS_REQUEST (R77): the table entry by entry in index order. -/
def execLineLossRequest (s : State) : Answer :=
  .next <| s.whenRunning fun s =>
    s.forEntries (fun s e => EntryState.lostWithLine (s.entryState e)) State.loseEntry

/-- Restart (R77, R106): each entry in SHED with cause LINE LOSS to WAITING, in index order. -/
def State.restartEntries (s : State) : State :=
  s.forEntries (fun s e => s.entryState e == .shedLineLoss)
    (fun s e => s.moveEntry e .waiting .restart)

/-- The rota stop of R79: every entry in ROTA-OFF to WAITING, in index order. -/
def State.rotaStopEntries (s : State) : State :=
  s.forEntries (fun s e => s.entryState e == .rotaOff) (fun s e => s.moveEntry e .waiting .rotaStop)

end Sys2Proof.Machine
end

