-- ==== Sys2Proof/Machine/Notices.lean ====
section
/-! DEFINITION. The Notice Unit (section 10.5): delivery, pending slots, flushes and the requests that
act on a port's notices. -/

namespace Sys2Proof.Machine

/-- Records a notice queue holds at most (R163). -/
def queueRoom : Nat := 16

/-- The pending slot of a kind replaced. -/
def NoticePort.setSlot (n : NoticePort) (k : NoticeKind) (x : Option Notice) : NoticePort :=
  { n with slots := n.slots.set (k.number % 14) x (Nat.mod_lt _ (by decide)) }

/-- The pending slot of a kind. -/
def NoticePort.slot (n : NoticePort) (k : NoticeKind) : Option Notice :=
  n.slots.get ⟨k.number % 14, Nat.mod_lt _ (by decide)⟩

/-- A notice delivered to one port (R163): kept off a port it is not routed to or whose notices are
disabled; queued when hold is clear, the kind not masked and there is room; otherwise placed in the
pending slot of its kind. -/
def NoticePort.deliver (n : NoticePort) (x : Notice) : NoticePort :=
  if !n.route.getLsbD x.kind.number || !n.enable then n
  else if !n.hold && !n.mask.getLsbD x.kind.number && decide (n.queue.length < queueRoom) then
    { n with queue := n.queue ++ [x] }
  else n.setSlot x.kind (some x)

/-- The notice as stamped: milliseconds since start-up completed, 0 before (R163, section 10.5). -/
def State.stamp (s : State) (k : NoticeKind) (subject value : Nat) : Notice :=
  { kind := k, subject := subject, value := value,
    time := if s.phase = .running then s.clockMs else 0 }

/-- NOTICE_DELIVERY (R163). -/
def execNoticeDelivery (k : NoticeKind) (subject value : Nat) (s : State) : Answer :=
  .next <| s.whenReleased fun s =>
    let x := s.stamp k subject value
    { s with ntu := ⟨s.ntu.g.deliver x, s.ntu.s.deliver x, s.ntu.h.deliver x⟩ }

/-- One pending slot at a flush (R164). -/
def flushSlot (n : NoticePort) (k : NoticeKind) : NoticePort :=
  match n.slot k with
  | some x =>
    if !n.mask.getLsbD k.number && decide (n.queue.length < queueRoom) then
      { n with queue := n.queue ++ [x] }.setSlot k none
    else n
  | none => n

/-- A flush: the pending slots in kind order while the queue has room; nothing with hold set (R164). -/
def NoticePort.flush (n : NoticePort) : NoticePort :=
  if n.hold then n else NoticeKind.all.foldl flushSlot n

/-- A queue and pending slots emptied, the controls kept (R167). -/
def NoticePort.emptied (n : NoticePort) : NoticePort :=
  { n with queue := [], slots := Vector.replicate 14 none }

/-- Pending slots of the kinds in a set emptied. -/
def NoticePort.dropSlots (n : NoticePort) (kinds : NoticeSet) : NoticePort :=
  NoticeKind.all.foldl (fun n k => if kinds.getLsbD k.number then n.setSlot k none else n) n

/-- New controls taken up, in the order of R165. -/
def NoticePort.control (n : NoticePort) (enable hold : Bool) (route mask : NoticeSet) : NoticePort :=
  let m := { n with enable := enable, hold := hold, route := route, mask := mask }
  let m := m.dropSlots (n.route &&& ~~~route)
  let m := if enable then m else { m with slots := Vector.replicate 14 none }
  if enable && ((n.hold && !hold) || decide (n.mask &&& ~~~mask ≠ 0)) then m.flush else m

/-- SET_NOTICE_CONTROL (R165); bits 14 and 15 of the sets are ignored. -/
def execSetNoticeControl (p : Port) (enable hold : Byte) (route mask : Half) (s : State) : Answer :=
  .next <| s.request .setNoticeControl (.setNoticeControl p enable hold route mask) p fun s =>
    match yesNo enable, yesNo hold with
    | some e, some h =>
      (s.setNotices p ((s.notices p).control e h (route.setWidth 14) (mask.setWidth 14))).done
    | _, _ => s.refuse .malformed

/-- A notice record of eight bytes (section 10.5). -/
def noticeBytes (x : Notice) : List Byte :=
  n1 x.kind.number ++ n1 x.subject ++ n2 x.value ++ Wide.bytes x.time

/-- TAKE_NOTICES (R166): removal, then the flush. -/
def execTakeNotices (p : Port) (count : Byte) (s : State) : Answer :=
  .next <| s.request .takeNotices (.takeNotices p count) p fun s =>
    if 1 ≤ count.toNat ∧ count.toNat ≤ 4 then
      let n := s.notices p
      let taken := n.queue.take count.toNat
      (s.setNotices p ({ n with queue := n.queue.drop count.toNat }.flush), .done,
        n1 taken.length ++ taken.flatMap noticeBytes)
    else s.refuse .malformed

end Sys2Proof.Machine
end

