-- ==== Sys2Proof/Machine/SawSequencer.lean ====
section
/-! DEFINITION. The Saw Sequencer (chapter 8): start, star, changeover and delta, supervision of the
contactors, stops and faults. -/

namespace Sys2Proof.Machine

/-- All three contactors commanded OPEN. -/
def allOpen : PerContactor Bool := ⟨false, false, false⟩

/-- No auxiliary has reported OPEN yet since SAW STOPPING was entered (R129). -/
def noneOpened : PerContactor Bool := ⟨false, false, false⟩

/-- No check timer runs. -/
def noChecks : PerContactor (Option Time) := ⟨none, none, none⟩

/-- Every auxiliary reports OPEN. -/
def Saw.auxOpen (w : Saw) : Bool := !w.aux.main && !w.aux.star && !w.aux.delta

/-- The lowest of MAIN, STAR and DELTA whose auxiliary reports CLOSED (R123, R132). -/
def Saw.lowestClosed (w : Saw) : Option Contactor := Contactor.all.find? (fun k => w.aux.get k)

/-- The Sequencer with a new stage, giving SAW STAGE with the cause of the change (R139). -/
def State.changeStage (s : State) (w : Saw) (cause : SawCause) : State :=
  { s with sws := w }.notice .sawStage 14 (w.stage.number + 16 * cause.number)

/-- The saw at SAW OFF (R136): the Admission Unit takes it in the same event, and the saw-stopped
report to the Load Table Controller is an event of its own. -/
def State.reachOff (s : State) (w : Saw) (cause : SawCause) : State :=
  ((s.changeStage { w with stage := .off } cause).returnDisplaced).post .sawStoppedReport

/-- Entry to SAW FAULT (R130). -/
def State.enterSawFault (s : State) (k : Contactor) (kind : SawFaultKind) (cause : SawCause) : State :=
  let w :=
    { s.sws with
      stage := .fault, commands := allOpen, checks := noChecks, dwell := none, dead := none,
      stopping := none, latch := true,
      record := some { contactor := k, kind := kind, stage := s.sws.stage, time := s.timebase } }
  ((s.changeStage w cause).raise .sawContactor).post .sawStoppedReport

/-- A stop (R131, R132): from SAW WAITING to SAW OFF; from a running stage all contactors open and
SAW STOPPING, and on to SAW OFF at once when every auxiliary already reports OPEN; nothing in any other
stage. -/
def State.stop (s : State) (cause : SawCause) : State :=
  match s.sws.stage with
  | .waiting => s.reachOff { s.sws with lastStop := some cause } cause
  | .star | .changeover | .delta =>
    let w :=
      { s.sws with
        stage := .stopping, commands := allOpen, checks := noChecks, dwell := none, dead := none,
        stopping := some s.timebase, lastStop := some cause, opened := noneOpened }
    let t := s.changeStage w cause
    if w.auxOpen then t.reachOff { w with stopping := none } .contactorsOpen else t
  | .off | .stopping | .fault => s

/-- SAW_START (R124). -/
def execSawStart (p : Port) (surge : Half) (displace : Byte) (s : State) : Answer :=
  .next <| s.request .sawStart (.sawStart p surge displace) p fun s =>
    match yesNo displace with
    | none => s.refuse .malformed
    | some d =>
      let w := max 100 (min 30000 surge.toNat)
      if s.sws.latch then s.refuse .sawFault
      else if s.sws.stage ≠ .off ∨ s.entryState sawEntry ≠ .off then s.refuse .state
      else if s.sws.estop then s.refuse .estop
      else if s.tsv.latch then s.refuse .tripped
      else
        let t := s.changeStage { s.sws with stage := .waiting, lastStop := none } .sawStart
        let l := t.load sawEntry
        let t := t.setLoad sawEntry { l with fields := { l.fields with watts := w } }
        let t := t.moveEntry sawEntry .waiting .sawStart
        let t :=
          { t with
            adu :=
              { t.adu with
                saw := some
                  { surge := w, displace := d, displaced := false, inserted := s.timebase,
                    refused := false } } }
        (t, if w = surge.toNat then .done else .clamped, [])

/-- BEGIN_SIGNAL (R125). -/
def execBeginSignal (s : State) : Answer :=
  .next <| s.whenRunning fun s =>
    if s.sws.stage = .waiting ∧ (s.entryState sawEntry).energised = true then
      if s.sws.estop then s.stop .estop
      else
        let now := some s.timebase
        s.changeStage
          { s.sws with
            stage := .star, commands := ⟨true, true, false⟩,
            checks := { s.sws.checks with main := now, star := now }, dwell := now }
          .grant
    else s

/-- The star dwell has run out by the setting as it stands (R126). -/
def State.dwellDue (s : State) : Bool :=
  decide (s.sws.stage = .star)
    && s.ranOut s.sws.dwell (s.settings.admission.starDwell * 1000)

/-- The dwell's end: K_STAR opened, changeover begun (R126). -/
def State.endDwell (s : State) : State :=
  if s.dwellDue then
    let now := some s.timebase
    s.changeStage
      { s.sws with
        stage := .changeover, commands := ⟨true, false, false⟩,
        checks := { s.sws.checks with star := now }, dwell := none, dead := now }
      .dwellEnd
  else s

/-- STAR_DWELL_EXPIRY (R126). -/
def execStarDwellExpiry (s : State) : Answer := .next <| s.whenRunning State.endDwell

/-- The changeover done (R127): in SAW CHANGEOVER with the dead time run out and AUX_STAR OPEN, K_DELTA
is commanded CLOSED. -/
def State.completeChangeover (s : State) : State :=
  if s.sws.stage = .changeover ∧ s.sws.dead = none ∧ s.sws.aux.star = false then
    s.changeStage
      { s.sws with
        stage := .delta, commands := ⟨true, false, true⟩,
        checks := { s.sws.checks with delta := some s.timebase } }
      .changeoverDone
  else s

/-- The dead time has run out by the setting as it stands (R127). -/
def State.deadTimeDue (s : State) : Bool :=
  decide (s.sws.stage = .changeover)
    && s.ranOut s.sws.dead (s.settings.admission.deadTime * 1000)

/-- The dead time's end (R127). -/
def State.endDeadTime (s : State) : State :=
  if s.deadTimeDue then { s with sws := { s.sws with dead := none } }.completeChangeover else s

/-- DEAD_TIME_EXPIRY (R127). -/
def execDeadTimeExpiry (s : State) : Answer := .next <| s.whenRunning State.endDeadTime

/-- A contactor's check timer has run 150 ms (R128). -/
def State.checkDue (s : State) (k : Contactor) : Bool := s.ranOut (s.sws.checks.get k) 150000

/-- CHECK_TIMER_EXPIRY (R128). -/
def execCheckTimerExpiry (k : Contactor) (s : State) : Answer :=
  .next <| s.whenRunning fun s =>
    if s.checkDue k then
      if s.sws.aux.get k = s.sws.commands.get k then
        { s with sws := { s.sws with checks := s.sws.checks.set k none } }
      else s.enterSawFault k .noConfirm .feedback
    else s

/-- An auxiliary CLOSED while the saw is at SAW OFF (R123, R129): latch, record if none, SAW CONTACTOR. -/
def State.closedAtRest (s : State) (k : Contactor) : State :=
  { s with
    sws :=
      { s.sws with
        latch := true
        record := s.sws.record.or
          (some { contactor := k, kind := .uncommanded, stage := .off, time := s.timebase }) } }.raise
    .sawContactor

/-- A change of an auxiliary whose check timer is stopped (R129, R132), by stage. -/
def State.uncommandedChange (s : State) (k : Contactor) (closed : Bool) : State :=
  match s.sws.stage with
  | .waiting | .star | .changeover | .delta => s.enterSawFault k .uncommanded .feedback
  | .stopping =>
    if closed then
      if s.sws.opened.get k then s.enterSawFault k .uncommanded .feedback else s
    else
      let w := { s.sws with opened := s.sws.opened.set k true }
      if w.auxOpen then s.reachOff { w with stopping := none } .contactorsOpen
      else { s with sws := w }
  | .off => if closed then s.closedAtRest k else s
  | .fault => if closed then s.raise .sawContactor else s

/-- AUX_CHANGE (R127 to R129, R132): the level is taken up; before start-up completes that is all. -/
def execAuxChange (k : Contactor) (closed : Bool) (s : State) : Answer :=
  let t := { s with sws := { s.sws with aux := s.sws.aux.set k closed } }
  .next <|
    if s.sws.aux.get k = closed then s
    else t.whenRunning fun t =>
      if (t.sws.checks.get k).isSome then t.completeChangeover else t.uncommandedChange k closed

/-- The stopping limit has run 500 ms (R132). -/
def State.stoppingLimitDue (s : State) : Bool :=
  decide (s.sws.stage = .stopping) && s.ranOut s.sws.stopping 500000

/-- STOPPING_LIMIT_EXPIRY (R132). -/
def execStoppingLimitExpiry (s : State) : Answer :=
  .next <| s.whenRunning fun s =>
    if s.stoppingLimitDue then
      match s.sws.lowestClosed with
      | some k => s.enterSawFault k .notOpen .notOpen
      | none => s.reachOff { s.sws with stopping := none } .contactorsOpen
    else s

/-- SAW_ESTOP_CHANGE (R133): the level is taken up; a change to asserted is a stop. -/
def execSawEstopChange (asserted : Bool) (s : State) : Answer :=
  let t := { s with sws := { s.sws with estop := asserted } }
  .next <|
    if s.sws.estop = asserted then s
    else t.whenRunning fun t => if asserted then t.stop .estop else t

/-- SAW_STOP (R134). -/
def execSawStop (p : Port) (s : State) : Answer :=
  .next <| s.request .sawStop (.sawStop p) p fun s =>
    (s.stop (if p = .s then .stopPortS else .stopPortG)).done

/-- STOP_FROM_LOAD_TABLE (R135). -/
def execStopFromLoadTable (cause : LoadTableStop) (s : State) : Answer :=
  .next <| s.whenRunning fun s =>
    s.stop (match cause with | .shed => .shed | .lineLoss => .lineLoss)

/-- CLEAR_SAW_FAULT (R137). -/
def execClearSawFault (p : Port) (s : State) : Answer :=
  .next <| s.request .clearSawFault (.clearSawFault p) p fun s =>
    if s.sws.latch = false then s.refuse .state
    else if s.sws.auxOpen = false then s.refuse .conditions
    else
      let w := { s.sws with latch := false, record := none }
      if s.sws.stage = .fault then
        ((s.changeStage { w with stage := .off } .cleared).returnDisplaced).done
      else { s with sws := w }.done

/-- The start of the saw wait while it runs: from the insertion of entry 14 until the wait expires (R68). -/
def State.sawWait (s : State) : Option Time :=
  s.adu.saw.bind (fun q => if q.refused then none else some q.inserted)

/-- The saw wait has run out by the limit as it stands (R68). -/
def State.sawWaitDue (s : State) : Bool :=
  s.ranOut s.sawWait (s.settings.admission.sawWaitLimit * 1000000)

/-- The saw request marked refused: its wait has expired (R68). -/
def State.refuseSaw (s : State) : State :=
  { s with adu := { s.adu with saw := s.adu.saw.map (fun q => { q with refused := true }) } }

/-- The expiry of the saw wait (R68): a stop of the saw with cause WAIT EXPIRED, which acts in SAW WAITING
alone (R131, R135), and SAW REFUSED. Displaced entries return in that stop, as the saw reaches SAW OFF
(R67, R136). Entry 14 goes to OFF by the report of the saw stopped, an event of its own (R131, R136), so
after them; until then it is WAITING, and no examination finds it (R68). In another stage that report is
outstanding already, and the expiry leaves the Sequencer and entry 14 as they are (DEDUCED, log 27). -/
def State.expireSawWait (s : State) : State :=
  if s.sawWaitDue then
    if s.entryState sawEntry = .waiting then
      let t := if s.sws.stage = .waiting then s.stop .waitExpired else s
      t.refuseSaw.notice .sawRefused 14 s.settings.admission.sawWaitLimit
    else { s with adu := { s.adu with saw := none } }
  else s

/-- SAW_WAIT_EXPIRY (R68). -/
def execSawWaitExpiry (s : State) : Answer := .next <| s.whenRunning State.expireSawWait

/-- SAW_STOPPED_REPORT (R80, R136): entry 14 to OFF if it is not OFF already. -/
def execSawStoppedReport (s : State) : Answer :=
  .next <| s.whenRunning fun s =>
    if s.entryState sawEntry = .off then s else s.moveEntry sawEntry .off .sawStopped

end Sys2Proof.Machine
end

