-- ==== Sys2Proof/Machine/Ports.lean ====
section
/-! DEFINITION. The station ports (chapter 10): frame receiver, taking of good frames, responses, link
faults, port reset, break and presence. -/

namespace Sys2Proof.Machine

/-! ### Presence (R161) -/

/-- The silence limit of a port, in seconds. -/
def State.silenceLimit (s : State) (p : Port) : Nat := s.settings.device.silence.get p

/-- A presence timer at its start: running for a non-zero limit, stopped for 0. -/
def State.silenceStart (s : State) (p : Port) : Option Time :=
  if s.silenceLimit p = 0 then none else some s.timebase

/-- What every good frame does to presence (R161). -/
def State.seen (s : State) (p : Port) : State :=
  let t := s.setPort p { s.port p with present := true, silence := s.silenceStart p }
  if (s.port p).present then t else t.notice .portPresence p.number 1

/-- The time since the presence timer's last start has reached the limit (R161). -/
def State.silenceDue (s : State) (p : Port) : Bool :=
  decide (s.silenceLimit p ≠ 0) && s.ranOut (s.port p).silence (s.silenceLimit p * 1000000)

/-- A port gone ABSENT (R161, R135). -/
def State.goSilent (s : State) (p : Port) : State :=
  let t := s.setPort p { s.port p with present := false, silence := none }
  let t := (t.notice .portPresence p.number 0).raise .portSilent
  if p = .s then t.stop .portSAbsent else t

/-- PRESENCE_TIMER_EXPIRY (R161). -/
def execPresenceTimerExpiry (p : Port) (s : State) : Answer :=
  .next <| s.whenRunning fun s => if s.silenceDue p then s.goSilent p else s

/-! ### The frame receiver (R155) -/

/-- DE is asserted: the response is being sent (R157). -/
def PortLink.de (l : PortLink) : Bool :=
  match l.tx with
  | .sending _ _ => true
  | _ => false

/-- A port's receiver in HUNT, with nothing kept. -/
def State.hunt (s : State) (p : Port) : State :=
  s.setPort p { s.port p with rx := { (s.port p).rx with mode := .hunt, bytes := [] } }

/-- More than 2 ms since the last byte of a frame that is not complete (R155). -/
def State.gapTooLong (s : State) (p : Port) : Bool :=
  (s.port p).rx.mode != .hunt && decide (2000 < s.elapsed (s.port p).rx.last)

/-- The gap of a partial frame is known to be no break: a low that began within its first 2 ms would have
made its port reset within 12 ms, and have discarded the frame first (R155, R160; DESIGN CHOICE, log 37). -/
def State.gapIsNoBreak (s : State) (p : Port) : Bool :=
  s.gapTooLong p && decide (12000 < s.elapsed (s.port p).rx.last)

/-- The partial frame discarded with a FRAME TIMEOUT when its gap is too long (R155, R159). -/
def State.dropLate (s : State) (p : Port) : State :=
  if s.gapTooLong p then (s.linkFault p .frameTimeout (s.port p).rx.bytes).hunt p else s

/-- FRAME_TIMEOUT (R155): the gap has passed 2 ms and is no break (R160; log 37). -/
def execFrameTimeout (p : Port) (s : State) : Answer :=
  .next <| s.whenRunning fun s => s.dropLate p

/-- A receiver that has taken one more byte of a frame and is now in a state. -/
def State.keepByte (s : State) (p : Port) (b : Byte) (mode : RxMode) : State :=
  s.setPort p
    { s.port p with rx := { mode := mode, bytes := (s.port p).rx.bytes ++ [b], last := s.timebase } }

/-- A request in hand since now, SETUP_EN as it stands (R155, R156). -/
def State.takeInHand (s : State) (p : Port) : State :=
  s.setPort p { s.port p with tx := .inHand s.timebase s.setupEn }

/-- A good frame answered by the port itself, with its link fault (R156 steps 1 to 3). -/
def State.answerSelf (s : State) (p : Port) (code : Byte) (r : Result) (k : LinkKind)
    (frame : List Byte) : State :=
  (((s.takeInHand p).linkFault p k frame)).answer p code r []

/-- A good frame taken in the order of R156: code, length, role, and then on to the owning block, as an
event of its own. -/
def State.takeFrame (s : State) (p : Port) (frame : List Byte) (code : Byte) (params : List Byte) :
    State :=
  match RequestName.ofCode code with
  | none => s.answerSelf p code .unknown .unknown frame
  | some n =>
    match n.read p params with
    | none => s.answerSelf p code .malformed .malformed frame
    | some i =>
      if n.permits p s.setupEn then (s.takeInHand p).post i
      else s.answerSelf p code .denied .denied frame

/-- A good frame (R155, R161): presence restarts, and the frame is taken when the port has no request in
hand and no response to begin; otherwise it is discarded. -/
def State.goodFrame (s : State) (p : Port) (frame : List Byte) (code : Byte) (params : List Byte) :
    State :=
  let t := s.seen p
  match (t.port p).tx with
  | .idle => t.takeFrame p frame code params
  | _ => t

/-- A whole frame judged by its CRC, the receiver back in HUNT (R155): start, LEN, CODE, PARAMS, CRC. -/
def State.judgeFrame (s : State) (p : Port) (frame : List Byte) : State :=
  let t := s.hunt p
  match frame with
  | _ :: len :: code :: rest =>
    let params := rest.take (len.toNat - 1)
    if rest.drop (len.toNat - 1) = Half.bytes (crc16 (len :: code :: params)) then
      t.goodFrame p frame code params
    else t.linkFault p .frameCheck frame
  | _ => t

/-- A byte taken by the receiver (R155). -/
def State.receive (s : State) (p : Port) (b : Byte) : State :=
  let bytes := (s.port p).rx.bytes
  match (s.port p).rx.mode with
  | .hunt => if b = 0xC3 then s.keepByte p b .length else s
  | .length =>
    if b = 0 ∨ 48 < b.toNat then (s.linkFault p .overlong (bytes ++ [b])).hunt p
    else s.keepByte p b .body
  | .body =>
    s.keepByte p b (if bytes.length + 1 = (bytes.getD 1 0).toNat + 2 then .check else .body)
  | .check =>
    if bytes.length + 1 = (bytes.getD 1 0).toNat + 4 then s.judgeFrame p (bytes ++ [b])
    else s.keepByte p b .check

/-- RX_BYTE (R155, R162): SETUP_EN is sampled (log 8); the byte is disregarded before start-up completes
and while DE is asserted; a byte after too long a gap is judged afresh. -/
def execRxByte (p : Port) (b : Byte) (setupEn : Bool) (s : State) : Answer :=
  let s := { s with setupEn := setupEn }
  .next <| s.whenRunning fun s => if (s.port p).de then s else (s.dropLate p).receive p b

/-! ### Responses (R157) -/

/-- LEN and what it counts of a response (section 10.1). -/
def Response.body (r : Response) : List Byte :=
  n1 (r.data.length + 3) ++ r.code :: r.result.byte :: n1 r.waiting ++ r.data

/-- A response frame: start byte 0x3C, LEN, CODE, RESULT, WAITING, DATA and the CRC. -/
def Response.frame (r : Response) : List Byte := 0x3C :: (r.body ++ Half.bytes (crc16 r.body))

/-- A formed response whose request ended at least 0.5 ms ago may begin (R157). -/
def State.mayRespond (s : State) (p : Port) : Bool :=
  match (s.port p).tx with
  | .ready t _ => decide (500 ≤ s.elapsed t)
  | _ => false

/-- RESPONSE_START (R157): DE asserted, the frame begun. -/
def execResponseStart (p : Port) (s : State) : Answer :=
  .next <| s.whenRunning fun s =>
    match (s.port p).tx with
    | .ready _ r =>
      if s.mayRespond p then s.setPort p { s.port p with tx := .sending s.timebase r.frame } else s
    | _ => s

/-- The baud rate that waited for a port's response to be sent takes effect (R162). -/
def State.applyBaud (s : State) (p : Port) : State :=
  match (s.port p).baudNext with
  | some (q, baud) =>
    let t := s.setPort p { s.port p with baudNext := none }
    t.setPort q { t.port q with lineBaud := baud }
  | none => s

/-- RESPONSE_END (R157, R162): DE released. -/
def execResponseEnd (p : Port) (s : State) : Answer :=
  .next <| s.whenRunning fun s =>
    if (s.port p).de then (s.setPort p { s.port p with tx := .idle }).applyBaud p else s

/-! ### Port reset and break (R160) -/

/-- The Notice Unit's and the Load Table Controller's share of a port reset (R72, R167). -/
def State.dropPortKeeps (s : State) (p : Port) : State :=
  { s with
    ntu := s.ntu.set p (s.ntu.get p).emptied
    ltc :=
      { s.ltc with
        masks := s.ltc.masks.set p (BitVec.allOnes 6), fills := s.ltc.fills.set p Fields.none } }

/-- A port reset (R160). -/
def State.resetPort (s : State) (p : Port) : State :=
  let t := (s.hunt p).dropPortKeeps p
  t.setPort p
    { t.port p with
      silence := if (s.port p).present then s.silenceStart p else (s.port p).silence }

/-- PORT_RESET (R160). -/
def execPortReset (p : Port) (s : State) : Answer :=
  .next <| s.request .portReset (.portReset p) p fun s => (s.resetPort p).done

/-- BREAK: RX has been low for 10 ms (R160, R162). A frame that it ends gives no FRAME TIMEOUT: the break
comes within 12 ms of the frame's last byte and discards it without a link fault, and until then the
device's own time brings none (`State.gapIsNoBreak`, log 37). -/
def execLineBreak (p : Port) (s : State) : Answer :=
  .next <| s.whenRunning fun s =>
    if (s.port p).de || (s.port p).broken then s
    else
      let t := s.resetPort p
      t.setPort p { t.port p with broken := true }

/-- RX_GONE_HIGH (R160). -/
def execRxGoneHigh (p : Port) (s : State) : Answer :=
  .next <| s.whenRunning fun s => s.setPort p { s.port p with broken := false }

/-! ### The link fault record (R159) -/

/-- The bytes of a first-error record: kind (0xFF when empty), count, eight bytes. -/
def firstErrorBytes : Option (LinkKind × List Byte) → List Byte
  | none => n1 0xFF ++ n1 0 ++ List.replicate 8 0
  | some (k, bytes) =>
    n1 k.ctorIdx ++ n1 bytes.length ++ (bytes ++ List.replicate 8 (0 : Byte)).take 8

/-- READ_LINK_FAULT (R159). -/
def execReadLinkFault (p : Port) (of : Byte) (s : State) : Answer :=
  .next <| s.request .readLinkFault (.readLinkFault p of) p fun s =>
    match Port.ofNumber of.toNat with
    | some q => (s, .done, n1 (s.port q).faults.status.toNat ++ firstErrorBytes (s.port q).faults.first)
    | none => s.refuse .malformed

/-- CLEAR_LINK_FAULT (R159). -/
def execClearLinkFault (p : Port) (s : State) : Answer :=
  .next <| s.request .clearLinkFault (.clearLinkFault p) p fun s =>
    (s.setPort p { s.port p with faults := { status := 0, first := none } }).done

end Sys2Proof.Machine
end

