-- ==== Sys2Proof/Machine/Reference.lean ====
section
/-! DEFINITION. The Reference Monitor (section 1.2): the judgment of check windows, the no-good-window
timer and RETRY REFERENCE. -/

namespace Sys2Proof.Machine

/-- The Reference Monitor in a state, telling the Admission Unit whether the reference is the crystal
(R8, R53) and giving REFERENCE STATE. -/
def State.enterReference (s : State) (r : Reference) : State :=
  { s with rfm := r, adu := { s.adu with crystal := decide (r.state = RefState.crystal) } }.notice
    .referenceState 0 r.state.number

/-- Crystal cycles that make a 32 µs check window good (R3). -/
def goodCycles : Nat := 128

/-- Consecutive good windows that complete a qualification (R3, R4). -/
def qualifyingWindows : Nat := 4096

/-- A window judged while qualifying (R3, R4). -/
def State.qualifyWindow (s : State) (good : Bool) : State :=
  if good then
    if s.rfm.goodWindows + 1 = qualifyingWindows then
      (s.post .sourceSwitch).enterReference { state := .crystal, goodWindows := 0, noGood := none }
    else { s with rfm := { s.rfm with goodWindows := s.rfm.goodWindows + 1, noGood := none } }
  else { s with rfm := { s.rfm with goodWindows := 0, noGood := some s.timebase } }

/-- A crystal loss (R6). -/
def State.crystalLoss (s : State) : State :=
  ((s.post .sourceSwitch).enterReference { s.rfm with state := .fallback }).raise .referenceFallback

/-- CHECK_WINDOW_END (R3, R4, R6): a 32 µs window ends with a count of crystal cycles. -/
def execCheckWindowEnd (cycles : Nat) (s : State) : Answer :=
  .next <| s.whenReleased fun s =>
    match s.rfm.state with
    | .starting => s.qualifyWindow (decide (goodCycles ≤ cycles))
    | .crystal => if cycles < goodCycles then s.crystalLoss else s
    | .fallback => s

/-- The no-good-window timer has reached 100 ms while qualifying (R5). -/
def State.noGoodWindowDue (s : State) : Bool :=
  decide (s.rfm.state = .starting) && s.ranOut s.rfm.noGood 100000

/-- NO_GOOD_WINDOW_TIMEOUT (R5). -/
def execNoGoodWindowTimeout (s : State) : Answer :=
  .next <| s.whenReleased fun s =>
    if s.noGoodWindowDue then
      (s.enterReference { state := .fallback, goodWindows := 0, noGood := none }).raise
        .referenceFallback
    else s

/-- RETRY_REFERENCE (R7). -/
def execRetryReference (p : Port) (s : State) : Answer :=
  .next <| s.request .retryReference (.retryReference p) p fun s =>
    if s.rfm.state = .fallback then
      (s.enterReference
        { state := .starting, goodWindows := 0, noGood := some s.timebase }).done
    else s.refuse .state

end Sys2Proof.Machine
end

