-- ==== Sys2Proof/Machine/RotaPlayer.lean ====
section
/-! DEFINITION. The Rota Player (chapter 7): pages, play buffer, slot timer, crossings and splits. -/

namespace Sys2Proof.Machine

/-- The allowed set of a slot record: two bytes, bits 14 and 15 ignored (section 10.2, R156). -/
def allowedOf (h : Half) : AllowedSet := h.setWidth 14

/-- A slot index from a number, wrapping (used on numbers below 64). -/
def slotIx (n : Nat) : Fin 64 := ⟨n % 64, Nat.mod_lt n (by decide)⟩

/-- Slot records written at a first slot and the slots after it, in order (R112). -/
def writeSlots (page : Vector AllowedSet 64) (first : Nat) : List Half → Vector AllowedSet 64
  | [] => page
  | h :: hs => writeSlots (page.set (slotIx first).val (allowedOf h)) (first + 1) hs

/-- ROTA_WRITE (R112). -/
def execRotaWrite (p : Port) (page first : Byte) (sets : List Half) (s : State) : Answer :=
  .next <| s.request .rotaWrite (.rotaWrite p page first sets) p fun s =>
    match pageOf page with
    | none => s.refuse .malformed
    | some g =>
      if first.toNat < 64 ∧ 1 ≤ sets.length ∧ sets.length ≤ 8 ∧ first.toNat + sets.length ≤ 64 then
        { s with
          rtp :=
            { s.rtp with
              pages := s.rtp.pages.set g.val (writeSlots (s.rtp.pages.get g) first.toNat sets) } }.done
      else s.refuse .malformed

/-- The slot at the pointer handed to the Load Table Controller as one slot application (R116). -/
def State.handSlot (s : State) : State :=
  s.post (.slotApplication (s.rtp.buffer.get s.rtp.pointer))

/-- Where a crossing lands: the pointer after it, and whether it used the pending split (R115). -/
def Rota.crossing (r : Rota) : Fin 64 × Bool :=
  let base := if r.pointer.val = 31 then 32 else 0
  match r.split with
  | some x => (slotIx (base + x.tap.val), true)
  | none => (slotIx base, false)

/-- The end of the slot now playing (R114, R115): an advance within the half, or a crossing with ROTA
CROSSED; the new slot's timer starts at the given time, and the slot is applied. -/
def State.endSlot (s : State) (start : Time) : State :=
  let r := { s.rtp with seconds := 0, second := some start }
  if s.rtp.pointer.val = 31 ∨ s.rtp.pointer.val = 63 then
    let x := s.rtp.crossing
    ({ s with rtp := { r with pointer := x.1, split := none } }.notice .rotaCrossed 0
      (x.1.val + (if x.2 then 64 else 0))).handSlot
  else { s with rtp := { r with pointer := slotIx (s.rtp.pointer.val + 1) } }.handSlot

/-- The seconds of a slot, by the setting as it stands (R113). -/
def State.slotSeconds (s : State) : Nat := s.settings.slotPeriod * 60

/-- The slot timer has reached the slot period (R113). -/
def State.slotDue (s : State) : Bool := s.rtp.playing && decide (s.slotSeconds ≤ s.rtp.seconds)

/-- A second of the slot timer has passed (R113). -/
def State.secondDue (s : State) : Bool :=
  s.rtp.playing && !s.slotDue && s.ranOut s.rtp.second 1000000

/-- SLOT_TIMER_SECOND (R113). -/
def execSlotTimerSecond (s : State) : Answer :=
  .next <| s.whenRunning fun s =>
    if s.secondDue then
      { s with
        rtp :=
          { s.rtp with
            seconds := s.rtp.seconds + 1, second := s.rtp.second.map (· + 1000000) } }
    else s

/-- SLOT_TIMER_EXPIRY (R113 to R115): the new slot starts at the expiry itself, without drift. -/
def execSlotTimerExpiry (s : State) : Answer :=
  .next <| s.whenRunning fun s =>
    if s.slotDue then s.endSlot (s.rtp.second.getD s.timebase) else s

/-- ROTA_START (R117). -/
def execRotaStart (p : Port) (page tap : Byte) (s : State) : Answer :=
  .next <| s.request .rotaStart (.rotaStart p page tap) p fun s =>
    match pageOf page, slotOf tap with
    | some g, some t =>
      ({ s with
        rtp :=
          { s.rtp with
            buffer := s.rtp.pages.get g, pointer := t, split := none, seconds := 0,
            second := some s.timebase, playing := true } }.handSlot).done
    | _, _ => s.refuse .malformed

/-- The buffer with the slots from `start` on copied from a page, `n` of them (R118). -/
def copySlots (page buffer : Vector AllowedSet 64) (start n : Nat) : Vector AllowedSet 64 :=
  (List.range n).foldl
    (fun b k => b.set (slotIx (start + k)).val (page.get (slotIx (start + k)))) buffer

/-- The half not holding the pointer (R118). -/
def Rota.otherHalf (r : Rota) : RotaHalf := if r.pointer.val < 32 then .high else .low

/-- The first slot of a half. -/
def halfStart : RotaHalf → Nat
  | .low => 0
  | .high => 32

/-- ROTA_SPLIT (R118). -/
def execRotaSplit (p : Port) (page tap : Byte) (s : State) : Answer :=
  .next <| s.request .rotaSplit (.rotaSplit p page tap) p fun s =>
    match pageOf page, tapOf tap with
    | some g, some t =>
      if !s.rtp.playing then s.refuse .notPlaying
      else if s.rtp.pointer.val = 31 ∨ s.rtp.pointer.val = 63 then s.refuse .tooClose
      else
        let half := s.rtp.otherHalf
        { s with
          rtp :=
            { s.rtp with
              buffer := copySlots (s.rtp.pages.get g) s.rtp.buffer (halfStart half) 32
              split := some { half := half, tap := t, page := g } } }.done
    | _, _ => s.refuse .malformed

/-- An announced slot application. -/
def isSlotApplication : Instr → Bool
  | .slotApplication _ => true
  | _ => false

/-- One announced event taken if it is a slot application. -/
def takeSlotApplication (s : State) (i : Instr) : State :=
  match i with
  | .slotApplication a => s.applySlot a
  | _ => s

/-- Slot applications still to be taken by the Load Table Controller, taken (R120: an expiry taken before
a stop has its slot application made before the stop; log 28). -/
def State.flushSlots (s : State) : State :=
  let t := { s with posted := s.posted.filter (fun i => !isSlotApplication i) }
  (s.posted.filter isSlotApplication).foldl takeSlotApplication t

/-- ROTA_STOP (R120). -/
def execRotaStop (p : Port) (s : State) : Answer :=
  .next <| s.request .rotaStop (.rotaStop p) p fun s =>
    if s.rtp.playing then
      let t := s.flushSlots
      let t := { t with rtp := { t.rtp with playing := false, second := none, split := none } }
      t.rotaStopEntries.done
    else s.done

/-- READ_ROTA's selection, when it is in range: the slots asked for (R122). -/
def State.rotaSlots (s : State) (source first count : Nat) : Option (List AllowedSet) :=
  if source ≤ 4 ∧ first < 64 ∧ count ≤ 8 ∧ first + count ≤ 64 then
    let src := if h : source < 4 then s.rtp.pages.get ⟨source, h⟩ else s.rtp.buffer
    some ((List.range count).map (fun k => src.get (slotIx (first + k))))
  else none

/-- The bytes of the pending split: present, half, tap, page (section 10.2); the last three are unstated
when it is absent (log 15). -/
def State.splitBytes (s : State) : List Byte :=
  match s.rtp.split with
  | some x =>
    n1 1 ++ n1 (match x.half with | .low => 0 | .high => 1) ++ n1 x.tap.val ++ n1 x.page.val
  | none => n1 0 ++ s.unstated 0 3

/-- READ_ROTA (R122). -/
def execReadRota (p : Port) (sel : Option (Byte × Byte × Byte)) (s : State) : Answer :=
  .next <| s.request .readRota (.readRota p sel) p fun s =>
    let slots :=
      match sel with
      | none => some []
      | some (src, first, count) => s.rotaSlots src.toNat first.toNat count.toNat
    match slots with
    | none => s.refuse .malformed
    | some sets =>
      let left := if s.rtp.playing then s.slotSeconds - s.rtp.seconds else 0
      (s.draw, .done,
        flagByte s.rtp.playing ++ n1 s.rtp.pointer.val ++ s.splitBytes ++ n1 s.settings.slotPeriod
          ++ n2 left ++ sets.flatMap (fun a => n2 a.toNat))

end Sys2Proof.Machine
end

