-- ==== Sys2Proof/Machine/ShedController.lean ====
section
/-! DEFINITION. The Shed Controller (chapter 6): confirming, shedding, recovery, line loss, restart. -/

namespace Sys2Proof.Machine

/-- The Shed Controller with a record of its own; a change of the shed state gives SHED STATE (R108). -/
def State.changeShed (s : State) (c : Shed) : State :=
  let t := { s with shc := c }
  if c.state = s.shc.state then t else t.notice .shedState 0 c.state.number

/-- The first chain entry that is RESERVED or ON (R100). -/
def State.shedChoice (s : State) : Option Entry :=
  s.ltc.chain.find? (fun e => (s.entryState e).energised)

/-- One entry shed (R76, R100): entry 14 to OFF with a stop of the saw, any other to SHED
(UNDERFREQUENCY) and onto the stack; SHED EXHAUSTED when there is none, with the controller SHEDDING, as
every record that sheds leaves it (R98, R99, R175). -/
def State.shedOne (s : State) : State :=
  match s.shedChoice with
  | none => s.post (.faultRaise ⟨.shedExhausted, .shed .shedding⟩)
  | some e =>
    if e = sawEntry then (s.moveEntry e .off .shed).stopSaw .shed
    else
      let t := s.moveEntry e .shedUnderfrequency .shed
      { t with shc := { t.shc with stack := t.shc.stack ++ [e] } }

/-- A record at which FAST holds (R98). -/
def State.shedFast (s : State) : State :=
  let t := s.shedOne
  t.changeShed { t.shc with state := .shedding, count := 0, recovery := none }

/-- A SHORT record counted in CONFIRMING or SHEDDING: at the limit one entry is shed and the count
starts again (R99). -/
def State.countShort (s : State) : State :=
  if s.settings.admission.confirmLimit ≤ s.shc.count + 1 then
    let t := s.shedOne
    t.changeShed { t.shc with state := .shedding, count := 0 }
  else { s with shc := { s.shc with count := s.shc.count + 1 } }

/-- A record at which SHORT holds and FAST does not (R99). -/
def State.shedShort (s : State) : State :=
  match s.shc.state with
  | .normal => s.changeShed { s.shc with state := .confirming, count := 1 }
  | .confirming | .shedding => s.countShort
  | .recoveryHold => s.changeShed { s.shc with state := .shedding, count := 1, recovery := none }

/-- A record at which neither holds (R99). -/
def State.shedNeither (s : State) : State :=
  match s.shc.state with
  | .confirming => s.changeShed { s.shc with state := .normal, count := 0 }
  | .shedding =>
    s.changeShed { s.shc with state := .recoveryHold, count := 0, recovery := some s.timebase }
  | .normal | .recoveryHold => s

/-- RECORD_AT_SHED (R96 to R100). -/
def execRecordAtShed (r : RegRecord) (s : State) : Answer :=
  .next <| s.whenRunning fun s =>
    if fastFlag s.settings.admission.fastShedF r then s.shedFast
    else if shortFlag s.settings.admission.shedMargin r then s.shedShort
    else s.shedNeither

/-- The recovery hold has run out by the setting as it stands (R102). -/
def State.recoveryDue (s : State) : Bool :=
  decide (s.shc.state = .recoveryHold)
    && s.ranOut s.shc.recovery (s.settings.admission.recoveryHold * 1000000)

/-- Recovery of one entry: to WAITING if it is still SHED with cause UNDERFREQUENCY (R76). -/
def recoverEntry (s : State) (e : Entry) : State :=
  if s.entryState e = .shedUnderfrequency then s.moveEntry e .waiting .recovery else s

/-- The recovery hold's expiry (R102): the stack returned from its top, and NORMAL. -/
def State.endRecovery (s : State) : State :=
  if s.recoveryDue then
    let t := s.shc.stack.reverse.foldl recoverEntry s
    t.changeShed { t.shc with state := .normal, count := 0, stack := [], recovery := none }
  else s

/-- RECOVERY_HOLD_EXPIRY (R102). -/
def execRecoveryHoldExpiry (s : State) : Answer := .next <| s.whenRunning State.endRecovery

/-- What leaving REGULATING does to the shed state (R103). -/
def State.shedLeavesRegulating (s : State) : State :=
  let c := { s.shc with regulating := false, restart := none }
  match s.shc.state with
  | .confirming => s.changeShed { c with state := .normal, count := 0 }
  | .shedding => s.changeShed { c with count := 0 }
  | .recoveryHold | .normal => s.changeShed c

/-- REG_STATE_AT_SHED (R103, R106). -/
def execRegStateAtShed (c : RegChange) (s : State) : Answer :=
  .next <| s.whenRunning fun s =>
    if c.state = .regulating then
      if s.shc.regulating then s
      else
        { s with
          shc :=
            { s.shc with
              regulating := true
              restart := if s.shc.restartPending then some s.timebase else s.shc.restart } }
    else if s.shc.regulating then s.shedLeavesRegulating
    else s

/-- LINE_STATE_AT_SHED (R104). -/
def execLineStateAtShed (l : LineState) (s : State) : Answer :=
  .next <| s.whenRunning fun s =>
    { s with shc := { s.shc with lineLoss := if l = .absent then some s.timebase else none } }

/-- The line-loss timer has run 2 s (R104). -/
def State.lineLossDue (s : State) : Bool := s.ranOut s.shc.lineLoss 2000000

/-- LINE_LOSS_TIMER_EXPIRY (R104, R105): NORMAL, the stack emptied, restart pending, line loss requested
of the Load Table Controller, and SHED STATE (LINE LOSS SHED). The restart hold starts with the mark when
the regulator is REGULATING (R106). -/
def execLineLossTimerExpiry (s : State) : Answer :=
  .next <| s.whenRunning fun s =>
    if s.lineLossDue then
      let c :=
        { s.shc with
          state := .normal, count := 0, recovery := none, stack := [], restartPending := true,
          lineLoss := none,
          restart :=
            if s.shc.regulating && s.shc.restart.isNone then some s.timebase else s.shc.restart }
      ({ s with shc := c }.post .lineLossRequest).notice .shedState 0 4
    else s

/-- The restart hold has run out by the setting as it stands (R106). -/
def State.restartDue (s : State) : Bool :=
  s.ranOut s.shc.restart (s.settings.admission.restartHold * 1000000)

/-- The restart hold's expiry (R106). -/
def State.endRestart (s : State) : State :=
  if s.restartDue then
    ({ s with shc := { s.shc with restartPending := false, restart := none } }.restartEntries).notice
      .shedState 0 5
  else s

/-- RESTART_HOLD_EXPIRY (R106). -/
def execRestartHoldExpiry (s : State) : Answer := .next <| s.whenRunning State.endRestart

end Sys2Proof.Machine
end

