-- ==== Sys2Proof/Machine/TurbineSupervisor.lean ====
section
/-! DEFINITION. The Turbine Supervisor (chapter 9): trips and their reset, the trip area's mark, shaft
pulses, belt slip, standstill, gate advice and gate permits. -/

namespace Sys2Proof.Machine

/-! ### Trips (section 9.2) -/

/-- The advice at a direction and excess; a change of direction gives GATE ADVICE (R150). -/
def State.setAdvice (s : State) (d : Direction) (excess : Int) : State :=
  let t := { s with tsv := { s.tsv with direction := d, excess := excess } }
  if d = s.tsv.direction then t else t.notice .gateAdvice 0 d.number

/-- A trip (R143): with the latch clear it is set, RUN_PERMIT drops, the record is written, the advice
becomes TRIPPED, OVERSPEED TRIP is raised, TRIP is given and the trip area is marked PENDING (R146);
with the latch set only the fault is raised again. -/
def State.tripWith (s : State) (cause : TripCause) (f : Nat) : State :=
  if s.tsv.latch then s.raise .overspeedTrip
  else
    let t :=
      { s with
        tsv :=
          { s.tsv with
            latch := true, runPermit := false,
            record := some { cause := cause, time := s.timebase, f := f },
            reference := .since s.timebase, mark := .pending } }
    ((t.setAdvice .tripped 0).raise .overspeedTrip).notice .trip 0 cause.number

/-- A computed advice: CLOSE above the band, OPEN below it, HOLD otherwise, with the excess over the
middle of the band (R150). -/
def adviceOf (low high : Nat) (lastA : Option Nat) : Direction × Int :=
  match lastA with
  | none => (.hold, 0)
  | some x =>
    let a := (roundNearest x 16).toNat
    let d := if high < a then Direction.closeGate else if a < low then .openGate else .hold
    (d, (a : Int) - ((low + high) / 2 : Nat))

/-- The advice computed from the last A and the band (R150). -/
def State.computedAdvice (s : State) : Direction × Int :=
  adviceOf s.settings.supervision.adviceLow s.settings.supervision.adviceHigh s.tsv.lastA

/-- TRIP (R145). -/
def execTrip (p : Port) (s : State) : Answer :=
  .next <| s.request .trip (.trip p) p fun s =>
    (s.tripWith .requested (s.tsv.lastF.getD 0)).done

/-- 30 s have passed since the trip time reference (R147). -/
def State.referenceMet (s : State) : Bool :=
  match s.tsv.reference with
  | .since t => decide (30000000 ≤ s.elapsed t)
  | .met => true
  | .unset => false

/-- The conditions of TRIP RESET (R147). -/
def State.resetAllowed (s : State) : Bool :=
  s.referenceMet
    && (s.lnm.state != .present || decide (s.lnm.f ≤ s.brg.active.fSet + 500))
    && decide (s.tsv.shaftCount = 0)

/-- TRIP_RESET (R147). -/
def execTripReset (p : Port) (s : State) : Answer :=
  .next <| s.request .tripReset (.tripReset p) p fun s =>
    if s.tsv.latch = false then s.refuse .state
    else if s.resetAllowed = false then s.refuse .conditions
    else
      let t :=
        { s with tsv := { s.tsv with latch := false, runPermit := true, mark := .pending } }
      let x := t.computedAdvice
      ((t.notice .trip 0 0).setAdvice x.1 x.2).done

/-- The reference is still counted and its 30 s have passed (R147). -/
def State.referenceDue (s : State) : Bool :=
  match s.tsv.reference with
  | .since t => decide (30000000 ≤ s.elapsed t)
  | _ => false

/-- TRIP_RESET_TIME_MET (R147). -/
def execTripResetTimeMet (s : State) : Answer :=
  .next <| s.whenRunning fun s =>
    if s.referenceDue then { s with tsv := { s.tsv with reference := .met } } else s

/-! ### Regulation records (R144, R150, R151) -/

/-- The line overspeed count at a record (R144). -/
def State.countLine (s : State) (r : RegRecord) : State :=
  if s.settings.supervision.overspeedF ≤ r.f then
    if s.tsv.lineCount + 1 = 3 then
      { s with tsv := { s.tsv with lineCount := 0 } }.tripWith .lineOverspeed r.f
    else { s with tsv := { s.tsv with lineCount := s.tsv.lineCount + 1 } }
  else { s with tsv := { s.tsv with lineCount := 0 } }

/-- The saturated overspeed count at a record (R144). -/
def State.countSaturated (s : State) (r : RegRecord) : State :=
  if r.satHigh = true ∧ (s.settings.supervision.satMargin : Int) ≤ r.e then
    if s.tsv.satCount + 1 = 25 then
      { s with tsv := { s.tsv with satCount := 0 } }.tripWith .saturatedOverspeed r.f
    else { s with tsv := { s.tsv with satCount := s.tsv.satCount + 1 } }
  else { s with tsv := { s.tsv with satCount := 0 } }

/-- The advice count at a record: at the hundredth the advice is computed; while the latch is set the
direction stays TRIPPED and the excess 0 (R150). -/
def State.countAdvice (s : State) : State :=
  if s.tsv.adviceCount + 1 = 100 then
    let t := { s with tsv := { s.tsv with adviceCount := 0 } }
    if t.tsv.latch then t else t.setAdvice t.computedAdvice.1 t.computedAdvice.2
  else { s with tsv := { s.tsv with adviceCount := s.tsv.adviceCount + 1 } }

/-- A closed window is a strike (R151). -/
def isStrike (c k100 slipLimit : Nat) : Bool :=
  decide ((slipLimit * k100 : Nat) < ((c : Int) - k100).natAbs * 1000)

/-- The window judged (R151): strikes, and BELT SLIP at the third. -/
def State.judgeWindow (s : State) : State :=
  if isStrike s.tsv.windowPulses s.settings.supervision.k100 s.settings.supervision.slipLimit then
    if s.tsv.strikes + 1 = 3 then
      { s with tsv := { s.tsv with strikes := 0 } }.raise .beltSlip
    else { s with tsv := { s.tsv with strikes := s.tsv.strikes + 1 } }
  else { s with tsv := { s.tsv with strikes := 0 } }

/-- A slip window opened with both counts 0 (R151). -/
def State.openWindow (s : State) : State :=
  { s with tsv := { s.tsv with windowOpen := true, windowRecords := 0, windowPulses := 0 } }

/-- The slip window at a record (R151). -/
def State.countWindow (s : State) : State :=
  if s.settings.supervision.k100 = 0 then s
  else if s.tsv.windowOpen then
    if s.tsv.windowRecords + 1 = 100 then s.judgeWindow.openWindow
    else { s with tsv := { s.tsv with windowRecords := s.tsv.windowRecords + 1 } }
  else s.openWindow

/-- The last record values stored (R144). -/
def State.storeRecord (s : State) (r : RegRecord) : State :=
  { s with
    tsv := { s.tsv with lastF := some r.f, lastSatHigh := some r.satHigh, lastA := some r.a } }

/-- RECORD_AT_TURBINE (R144, R150, R151). No rule orders the three within one record. The model takes the
trips first, then the hundredth-record advice, then the slip window: so a record that trips gives no
CLOSE or OPEN ahead of TRIPPED, and raises OVERSPEED TRIP ahead of BELT SLIP (DESIGN CHOICE, log 53). -/
def execRecordAtTurbine (r : RegRecord) (s : State) : Answer :=
  .next <| s.whenRunning fun s =>
    ((((s.storeRecord r).countLine r).countSaturated r).countAdvice).countWindow

/-- REG_STATE_AT_TURBINE (R144, R151): a change that takes the regulator out of REGULATING zeroes both
counts, sets the last SAT HIGH to clear and closes the slip window without judgement. -/
def execRegStateAtTurbine (c : RegChange) (s : State) : Answer :=
  .next <| s.whenRunning fun s =>
    if c.state = .regulating then { s with tsv := { s.tsv with regulating := true } }
    else if s.tsv.regulating then
      { s with
        tsv :=
          { s.tsv with
            regulating := false, lineCount := 0, satCount := 0, lastSatHigh := some false,
            windowOpen := false } }
    else s

/-! ### Shaft pulses and standstill (R148, R149) -/

/-- The shaft is in use (R149). -/
def State.shaftInUse (s : State) : Bool :=
  decide (0 < s.settings.supervision.k100) || decide (0 < s.settings.supervision.shaftLimit)

/-- The standstill timer started when the line is PRESENT and the shaft in use, stopped otherwise. -/
def State.superviseStandstill (s : State) : State :=
  { s with
    tsv :=
      { s.tsv with
        standstill := if s.tsv.line = .present ∧ s.shaftInUse = true then some s.timebase else none } }

/-- LINE_STATE_AT_TURBINE (R149). -/
def execLineStateAtTurbine (l : LineState) (s : State) : Answer :=
  .next <| s.whenRunning fun s => { s with tsv := { s.tsv with line := l } }.superviseStandstill

/-- The shaft overspeed count with a completed shaft period (R148). -/
def State.countShaft (s : State) (period : Nat) : State :=
  let limit := s.settings.supervision.shaftLimit
  if limit = 0 then s
  else if period < limit then
    if s.tsv.shaftCount + 1 = 5 then
      { s with tsv := { s.tsv with shaftCount := 0 } }.tripWith .shaftOverspeed
        (s.tsv.lastF.getD 0)
    else { s with tsv := { s.tsv with shaftCount := s.tsv.shaftCount + 1 } }
  else { s with tsv := { s.tsv with shaftCount := 0 } }

/-- The captures, timers and slip window of a shaft pulse (R148, R149). -/
def State.capturePulse (s : State) : State :=
  let now := some s.timebase
  { s with
    tsv :=
      { s.tsv with
        prevPulse := s.tsv.lastPulse, lastPulse := now, gap := now,
        standstill :=
          if s.tsv.standstill.isSome = true ∨ (s.tsv.line = .present ∧ s.shaftInUse = true) then now
          else none
        windowPulses :=
          if s.tsv.windowOpen then min 65535 (s.tsv.windowPulses + 1) else s.tsv.windowPulses } }

/-- SHAFT_PULSE (R141, R148). -/
def execShaftPulse (s : State) : Answer :=
  .next <| s.whenRunning fun s =>
    let t := s.capturePulse
    match s.tsv.lastPulse with
    | some prev => t.countShaft (s.elapsed prev)
    | none => t

/-- 2 s since the last shaft pulse (R148). -/
def State.gapDue (s : State) : Bool := s.ranOut s.tsv.gap 2000000

/-- SHAFT_GAP_TIMER_EXPIRY (R148). -/
def execShaftGapTimerExpiry (s : State) : Answer :=
  .next <| s.whenRunning fun s =>
    if s.gapDue then
      { s with
        tsv := { s.tsv with lastPulse := none, prevPulse := none, shaftCount := 0, gap := none } }
    else s

/-- The standstill timer has run 2 s (R149). -/
def State.standstillDue (s : State) : Bool := s.ranOut s.tsv.standstill 2000000

/-- STANDSTILL_TIMER_EXPIRY (R149). -/
def execStandstillTimerExpiry (s : State) : Answer :=
  .next <| s.whenRunning fun s =>
    if s.standstillDue then
      { s with tsv := { s.tsv with standstill := none } }.raise .shaftStill
    else s

/-! ### Gate permits (section 9.5) -/

/-- The amount of a gate movement is 1 to 200 (R152). -/
def amountOk (a : Byte) : Bool := decide (1 ≤ a.toNat) && decide (a.toNat ≤ 200)

/-- GATE_OPEN (R152). -/
def execGateOpen (p : Port) (amount : Byte) (s : State) : Answer :=
  .next <| s.request .gateOpen (.gateOpen p amount) p fun s =>
    if amountOk amount = false then s.refuse .malformed
    else if s.tsv.latch then s.refuse .tripped
    else if s.tsv.lastSatHigh = some true then s.refuse .saturated
    else (s, .done, [amount])

/-- A closing permit served from the tokens; the accrual timer starts when they leave 50 (R153). -/
def State.serveClose (s : State) (amount : Nat) : Taking :=
  let granted := min amount s.tsv.tokens
  let accrual :=
    if s.tsv.tokens = 50 ∧ 0 < granted then some s.timebase else s.tsv.accrual
  ({ s with tsv := { s.tsv with tokens := s.tsv.tokens - granted, accrual := accrual } }, .done,
    n1 granted)

/-- GATE_CLOSE (R153). -/
def execGateClose (p : Port) (amount : Byte) (s : State) : Answer :=
  .next <| s.request .gateClose (.gateClose p amount) p fun s =>
    if amountOk amount = false then s.refuse .malformed
    else if s.adu.table ≠ [] ∧ s.tsv.latch = false then (s, .reservationHeld, n1 0)
    else s.serveClose amount.toNat

/-- The accrual timer has run 200 ms (R153). -/
def State.gainDue (s : State) : Bool := s.ranOut s.tsv.accrual 200000

/-- TOKEN_GAIN (R153). -/
def execTokenGain (s : State) : Answer :=
  .next <| s.whenRunning fun s =>
    if s.gainDue then
      let tokens := min 50 (s.tsv.tokens + 1)
      { s with
        tsv :=
          { s.tsv with
            tokens := tokens, accrual := if tokens = 50 then none else some s.timebase } }
    else s

/-! ### READ TURBINE (R154, section 10.2) -/

/-- The bytes of the trip record: present, cause, timebase and f, the last three unstated when it is
absent (log 15). -/
def State.tripRecordBytes (s : State) : List Byte :=
  match s.tsv.record with
  | some r => n1 1 ++ n1 r.cause.number ++ Wide.bytes r.time ++ n4 r.f
  | none => n1 0 ++ s.unstated 0 9

/-- The time left to the 30 s, in ms (R154). -/
def State.resetTimeLeft (s : State) : Nat :=
  match s.tsv.reference with
  | .since t => inMs (30000000 - s.elapsed t)
  | _ => 0

/-- The last shaft period, 0 when none (section 10.2): with the shaft limit 0 there is none (R148; by the
limit as it stands, log 34). -/
def State.lastShaftPeriod (s : State) : Nat :=
  match s.tsv.lastPulse, s.tsv.prevPulse with
  | some x, some y => if s.settings.supervision.shaftLimit = 0 then 0 else (x - y).toNat
  | _, _ => 0

/-- READ_TURBINE (R154). -/
def execReadTurbine (p : Port) (s : State) : Answer :=
  .next <| s.request .readTurbine (.readTurbine p) p fun s =>
    let t := s.tsv
    (s.draw, .done,
      flagByte t.latch ++ flagByte t.runPermit ++ s.tripRecordBytes ++ n2 s.resetTimeLeft
        ++ n1 t.mark.ctorIdx ++ n1 t.lineCount ++ n1 t.satCount ++ n1 t.shaftCount
        ++ captureBytes t.lastPulse ++ captureBytes t.prevPulse ++ n4 s.lastShaftPeriod
        ++ flagByte t.windowOpen ++ n1 t.windowRecords ++ n2 t.windowPulses ++ n1 t.strikes
        ++ n2 (inMs (s.left t.standstill 2000000)) ++ n1 t.direction.number ++ i2 t.excess
        ++ n1 t.adviceCount ++ n1 t.tokens ++ n1 (inMs (s.left t.accrual 200000)))

end Sys2Proof.Machine
end

