-- ==== Sys2Proof/Machine/Settings.lean ====
section
/-! DEFINITION. The Settings Store in service (chapter 11): READ SETTING and WRITE SETTING over the
address table of section 11.1, saving, and the writes of the trip area (R146). -/

namespace Sys2Proof.Machine

/-! ### Reading (R168) -/

/-- Items 0 to 6 of the regulation group, in one copy. -/
def RegParams.item (r : RegParams) (item index : Nat) : Option Nat :=
  match item, index with
  | 0, 0 => some r.fSet
  | 1, 0 => some r.kp
  | 2, 0 => some r.ki
  | 3, 0 => some r.startDemand
  | 4, 0 => some r.enable.toNat
  | 5, x => if h : x < 3 then some (r.banks.get ⟨x, h⟩).rating else none
  | 6, x => if h : x < 3 then some (r.banks.get ⟨x, h⟩).available.toNat else none
  | _, _ => none

/-- Items 0 to 6 of the supervision group. -/
def SupervisionSettings.item (v : SupervisionSettings) : Nat → Option Nat
  | 0 => some v.overspeedF
  | 1 => some v.satMargin
  | 2 => some v.shaftLimit
  | 3 => some v.k100
  | 4 => some v.slipLimit
  | 5 => some v.adviceLow
  | 6 => some v.adviceHigh
  | _ => none

/-- Items 0 to 10 of the admission group. -/
def AdmissionSettings.item (v : AdmissionSettings) : Nat → Option Nat
  | 0 => some v.reserve
  | 1 => some v.restoreSpacing
  | 2 => some v.settleWindow
  | 3 => some v.shedMargin
  | 4 => some v.confirmLimit
  | 5 => some v.fastShedF
  | 6 => some v.recoveryHold
  | 7 => some v.restartHold
  | 8 => some v.sawWaitLimit
  | 9 => some v.starDwell
  | 10 => some v.deadTime
  | _ => none

/-- Items 0 to 4 of the load defaults group, for one entry. -/
def Fields.item (f : Fields) : Nat → Option Nat
  | 0 => some f.startWanted.toNat
  | 1 => some f.essential.toNat
  | 2 => some f.deferrable.toNat
  | 3 => some f.member.toNat
  | 4 => some f.watts
  | _ => Option.none

/-- Items 0 to 6 of the device group. -/
def DeviceSettings.item (d : DeviceSettings) (item index : Nat) : Option Nat :=
  match item with
  | 0 => (Port.ofNumber index).map d.regionLow.get
  | 1 => (Port.ofNumber index).map d.regionHigh.get
  | 2 => (Port.ofNumber index).map d.baud.get
  | 3 => (Port.ofNumber index).map d.silence.get
  | 4 => if index < 13 then some (d.masks.getLsbD index).toNat else none
  | 5 => if index < 13 then some (d.alarms.getLsbD index).toNat else none
  | 6 => if index = 0 then some d.threshold295.toNat else none
  | _ => none

/-- An item without an index, whose index must be 0. -/
def unindexed (index : Nat) (v : Option Nat) : Option Nat := if index = 0 then v else none

/-- The active and shadow values at an address; none for an address outside the table of section 11.1
(R168). -/
def State.settingAt (s : State) (group item index : Nat) : Option (Nat × Nat) :=
  match group with
  | 0 =>
    match s.brg.active.item item index, s.brg.shadow.item item index with
    | some a, some b => some (a, b)
    | _, _ => none
  | 1 => (unindexed index (s.settings.supervision.item item)).map fun v => (v, v)
  | 2 => (unindexed index (s.settings.admission.item item)).map fun v => (v, v)
  | 3 =>
    if h : index < 16 then ((s.load ⟨index, h⟩).fields.item item).map fun v => (v, v) else none
  | 4 => if item = 0 ∧ index = 0 then some (s.settings.slotPeriod, s.settings.slotPeriod) else none
  | 5 => (s.settings.device.item item index).map fun v => (v, v)
  | _ => none

/-- READ_SETTING (R168). -/
def execReadSetting (p : Port) (group item index : Byte) (s : State) : Answer :=
  .next <| s.request .readSetting (.readSetting p group item index) p fun s =>
    match s.settingAt group.toNat item.toNat index.toNat with
    | some (active, shadow) => (s, .done, n4 active ++ n4 shadow)
    | none => s.refuse .malformed

/-! ### Writing (R168) -/

/-- A written value clamped to a range. -/
def fit (lo hi : Nat) (v : Int) : Nat := (clampInt lo hi v).toNat

/-- DONE for a value within a range, CLAMPED for one outside it. -/
def fitResult (lo hi : Nat) (v : Int) : Result := if lo ≤ v ∧ v ≤ hi then .done else .clamped

/-- Yes and no are written as 1 and 0 (section 11.1). -/
def yesNoValue (v : Int) : Option Bool :=
  if v = 0 then some false else if v = 1 then some true else none

/-- The port may write the group (R168): its owner, or any port under the setup key. Group 3 is judged
entry by entry. -/
def State.ownsGroup (s : State) (p : Port) (group : Nat) : Bool :=
  match group with
  | 0 | 1 | 2 => p == .g || s.setupEn
  | 3 => true
  | 4 => p == .h || s.setupEn
  | _ => s.setupEn

/-- A bank's parameters changed in one copy. -/
def RegParams.setBank (r : RegParams) (b : Bank) (f : BankParams → BankParams) : RegParams :=
  { r with banks := r.banks.set b (f (r.banks.get b)) }

/-- One item of the shadow copy written (R21); none for a yes-or-no item given another value. -/
def RegParams.write (r : RegParams) (item : Nat) (b : Bank) (v : Int) : Option (RegParams × Result) :=
  match item with
  | 0 => some ({ r with fSet := fit 45000 55000 v }, fitResult 45000 55000 v)
  | 1 => some ({ r with kp := fit 0 4095 v }, fitResult 0 4095 v)
  | 2 => some ({ r with ki := fit 0 4095 v }, fitResult 0 4095 v)
  | 3 => some ({ r with startDemand := fit 0 1000 v }, fitResult 0 1000 v)
  | 4 => (yesNoValue v).map fun y => ({ r with enable := y }, .done)
  | 5 => some (r.setBank b (fun x => { x with rating := fit 0 32000 v }), fitResult 0 32000 v)
  | _ => (yesNoValue v).map fun y => (r.setBank b (fun x => { x with available := y }), .done)

/-- A write to the regulation group (R21). -/
def State.writeRegulation (s : State) (item index : Nat) (v : Int) : State × Result :=
  match s.brg.shadow.write item ⟨index % 3, Nat.mod_lt _ (by decide)⟩ v with
  | some (r, result) => ({ s with brg := { s.brg with shadow := r } }, result)
  | none => (s, .malformed)

/-- A shaft limit as written: 0, or 10 to 65,535, with 1 to 9 raised to 10 (R154). -/
def fitShaftLimit (v : Int) : Nat := if v ≤ 0 then 0 else fit 10 65535 v

/-- The answer to a shaft limit (R154). -/
def shaftLimitResult (v : Int) : Result := if v = fitShaftLimit v then .done else .clamped

/-- One item of the supervision group written (section 9.1, R154). -/
def SupervisionSettings.write (u : SupervisionSettings) (item : Nat) (v : Int) :
    SupervisionSettings × Result :=
  match item with
  | 0 => ({ u with overspeedF := fit 52000 62000 v }, fitResult 52000 62000 v)
  | 1 => ({ u with satMargin := fit 500 5000 v }, fitResult 500 5000 v)
  | 2 => ({ u with shaftLimit := fitShaftLimit v }, shaftLimitResult v)
  | 3 => ({ u with k100 := fit 0 24000 v }, fitResult 0 24000 v)
  | 4 => ({ u with slipLimit := fit 5 200 v }, fitResult 5 200 v)
  | 5 => ({ u with adviceLow := fit 0 1000 v }, fitResult 0 1000 v)
  | _ => ({ u with adviceHigh := fit 0 1000 v }, fitResult 0 1000 v)

/-- The supervisor's own effect of a write of an item: the shaft count at a write of the shaft limit
(R154), the slip window and strikes at a write of K100 (R151). -/
def Turbine.afterWrite (t : Turbine) (item : Nat) : Turbine :=
  match item with
  | 2 => { t with shaftCount := 0 }
  | 3 => { t with windowOpen := false, strikes := 0 }
  | _ => t

/-- A write to the supervision group (R154); a change of whether the shaft is in use acts on the
standstill timer (R149). -/
def State.writeSupervision (s : State) (item : Nat) (v : Int) : State × Result :=
  let x := s.settings.supervision.write item v
  if x.1.adviceHigh < x.1.adviceLow then (s, .conflict)
  else
    let t :=
      { s with
        settings := { s.settings with supervision := x.1 }
        tsv := s.tsv.afterWrite item }
    (if t.shaftInUse = s.shaftInUse then t else t.superviseStandstill, x.2)

/-- One item of the admission group written (sections 4.1, 6.1 and 8.1). -/
def AdmissionSettings.write (a : AdmissionSettings) (item : Nat) (v : Int) :
    AdmissionSettings × Result :=
  match item with
  | 0 => ({ a with reserve := fit 0 10000 v }, fitResult 0 10000 v)
  | 1 => ({ a with restoreSpacing := fit 500 30000 v }, fitResult 500 30000 v)
  | 2 => ({ a with settleWindow := fit 500 10000 v }, fitResult 500 10000 v)
  | 3 => ({ a with shedMargin := fit 200 3000 v }, fitResult 200 3000 v)
  | 4 => ({ a with confirmLimit := fit 2 100 v }, fitResult 2 100 v)
  | 5 => ({ a with fastShedF := fit 44000 49000 v }, fitResult 44000 49000 v)
  | 6 => ({ a with recoveryHold := fit 5 600 v }, fitResult 5 600 v)
  | 7 => ({ a with restartHold := fit 1 120 v }, fitResult 1 120 v)
  | 8 => ({ a with sawWaitLimit := fit 10 600 v }, fitResult 10 600 v)
  | 9 => ({ a with starDwell := fit 2000 20000 v }, fitResult 2000 20000 v)
  | _ => ({ a with deadTime := fit 40 500 v }, fitResult 40 500 v)

/-- What a written setting makes run out when the write is taken (R59, R68, R102, R106, R126, R127). A
settle window cut below the time of several records expires them all in the step of the write, one after
the other in slot order: R59 has each expire "when the write is taken" and also "as an event of its own",
and the model holds to the first (DESIGN CHOICE, log 54). -/
def State.afterAdmissionWrite (s : State) (item : Nat) : State :=
  match item with
  | 2 => (((s.expireSlot 0).expireSlot 1).expireSlot 2).expireSlot 3
  | 6 => s.endRecovery
  | 7 => s.endRestart
  | 8 => s.expireSawWait
  | 9 => s.endDwell
  | 10 => s.endDeadTime
  | _ => s

/-- A write to the admission group (R71, R107, R138). -/
def State.writeAdmission (s : State) (item : Nat) (v : Int) : State × Result :=
  let x := s.settings.admission.write item v
  ({ s with settings := { s.settings with admission := x.1 } }.afterAdmissionWrite item, x.2)

/-- The field mask of an item of the load defaults group. -/
def itemMask (item : Nat) : FieldMask := 1#6 <<< (item + 1)

/-- A written value in the one field of an item. -/
def itemFields (item : Nat) (v : Int) : Option Fields :=
  match item with
  | 0 => (yesNoValue v).map fun y => { Fields.none with startWanted := y }
  | 1 => (yesNoValue v).map fun y => { Fields.none with essential := y }
  | 2 => (yesNoValue v).map fun y => { Fields.none with deferrable := y }
  | 3 => (yesNoValue v).map fun y => { Fields.none with member := y }
  | _ => some { Fields.none with watts := v.toNat }

/-- A write to the load defaults group: a WRITE ENTRY of one field (R83, R168). Region first, then the
value (log 36); declared watts below 0 are stored as 0 and answered CLAMPED. -/
def State.writeLoadDefault (s : State) (p : Port) (e : Entry) (item : Nat) (v : Int) :
    State × Result :=
  if s.mayWrite p e then
    match itemFields item v with
    | none => (s, .malformed)
    | some f =>
      let x := s.writeFields e (itemMask item) f
      (x.1, if x.2 = .done ∧ v < 0 then .clamped else x.2)
  else (s, .denied)

/-- A write of the slot period (R113): a slot whose seconds reach the new period ends at the write. -/
def State.writeSlotPeriod (s : State) (v : Int) : State × Result :=
  let t := { s with settings := { s.settings with slotPeriod := fit 1 240 v } }
  (if t.slotDue then t.endSlot t.timebase else t, fitResult 1 240 v)

/-- The device group replaced. -/
def State.setDevice (s : State) (d : DeviceSettings) : State :=
  { s with settings := { s.settings with device := d } }

/-- A set with one kind put in or left out. -/
def withKind (m : FaultSet) (k : Nat) (y : Bool) : FaultSet :=
  if y then m ||| (1#13 <<< k) else m &&& ~~~(1#13 <<< k)

/-- A fault mask, a fault severity or the supply threshold as written: clamped to 0 or 1 and answered
CLAMPED or DONE, since R168 calls none of them a yes-or-no item. -/
def codedValue (v : Int) : Bool × Result := (decide (fit 0 1 v = 1), fitResult 0 1 v)

/-- A write of a silence limit: the timer of a PRESENT port restarts, or stops at 0 (R161). -/
def State.writeSilence (s : State) (q : Port) (v : Int) : State × Result :=
  let d := s.settings.device
  let t := s.setDevice { d with silence := d.silence.set q (fit 0 600 v) }
  (if (t.port q).present then t.setPort q { t.port q with silence := t.silenceStart q } else t,
    fitResult 0 600 v)

/-- A write of a port's baud rate: the setting at once, the line once the response to the write has
been sent on the writer's port (R162). -/
def State.writeBaud (s : State) (p q : Port) (v : Int) : State × Result :=
  if v = 57600 ∨ v = 115200 then
    let d := s.settings.device
    let t := s.setDevice { d with baud := d.baud.set q v.toNat }
    (t.setPort p { t.port p with baudNext := some (q, v.toNat) }, .done)
  else (s, .malformed)

/-- A write of a fault mask, a fault severity or the supply threshold (R168, R174, R176). -/
def State.writeCoded (s : State) (item index : Nat) (v : Int) : State × Result :=
  let d := s.settings.device
  let x := codedValue v
  match item with
  | 4 => ((s.setDevice { d with masks := withKind d.masks index x.1 }).judgeAlarm, x.2)
  | 5 => ((s.setDevice { d with alarms := withKind d.alarms index x.1 }).judgeAlarm, x.2)
  | _ => (s.setDevice { d with threshold295 := x.1 }, x.2)

/-- A write to the device group (R82, R161, R162, R168). -/
def State.writeDevice (s : State) (p : Port) (item index : Nat) (v : Int) : State × Result :=
  let d := s.settings.device
  match item, Port.ofNumber index with
  | 0, some q => (s.setDevice { d with regionLow := d.regionLow.set q (fit 0 15 v) }, fitResult 0 15 v)
  | 1, some q =>
    (s.setDevice { d with regionHigh := d.regionHigh.set q (fit 0 15 v) }, fitResult 0 15 v)
  | 2, some q => s.writeBaud p q v
  | 3, some q => s.writeSilence q v
  | _, _ => s.writeCoded item index v

/-- A write at an address of the table, by a port that may write its group (R168). -/
def State.writeItem (s : State) (p : Port) (group item index : Nat) (v : Int) : State × Result :=
  match group with
  | 0 => s.writeRegulation item index v
  | 1 => s.writeSupervision item v
  | 2 => s.writeAdmission item v
  | 3 => s.writeLoadDefault p ⟨index % 16, Nat.mod_lt _ (by decide)⟩ item v
  | 4 => s.writeSlotPeriod v
  | _ => s.writeDevice p item index v

/-- WRITE_SETTING (R168): address, ownership, value. -/
def execWriteSetting (p : Port) (group item index : Byte) (value : Wide) (s : State) : Answer :=
  .next <| s.request .writeSetting (.writeSetting p group item index value) p fun s =>
    if (s.settingAt group.toNat item.toNat index.toNat).isNone then s.refuse .malformed
    else if s.ownsGroup p group.toNat then
      let x := s.writeItem p group.toNat item.toNat index.toNat value.toInt
      (x.1, x.2, [])
    else s.refuse .denied

/-! ### What the nonvolatile store holds, and its checks (R146, section 11.2; log 6) -/

/-- The values of the regulation group, item by item. -/
def RegParams.items (r : RegParams) : List Nat :=
  [r.fSet, r.kp, r.ki, r.startDemand, r.enable.toNat, r.banks.b0.rating, r.banks.b1.rating,
   r.banks.b2.rating, r.banks.b0.available.toNat, r.banks.b1.available.toNat,
   r.banks.b2.available.toNat]

/-- The values of groups 1, 2, 4 and 5, item by item. -/
def Settings.items (v : Settings) : List Nat :=
  (List.range 7).filterMap v.supervision.item ++ (List.range 11).filterMap v.admission.item
    ++ [v.slotPeriod]
    ++ (List.range 7).flatMap (fun i => (List.range 13).filterMap (v.device.item i))

/-- The stored values of one entry. -/
def StoredLoad.items (l : StoredLoad) : List Nat :=
  [l.startWanted.toNat, l.essential.toNat, l.deferrable.toNat, l.member.toNat, l.watts]

/-- Everything the image holds but its check: every item, the chain order and the pages
(section 11.2). -/
def ImageData.items (d : ImageData) : List Nat :=
  d.regulation.items ++ d.settings.items ++ d.loads.toList.flatMap StoredLoad.items
    ++ (linkNumber (some d.chain.head) :: d.chain.links.toList.map linkNumber)
    ++ d.pages.toList.flatMap (fun page => page.toList.map (·.toNat))

/-- The values of a trip record, a leading 0 for none. -/
def tripItems : Option TripRecord → List Nat
  | none => [0]
  | some r => [1, r.cause.number, r.time.toNat, r.f]

/-- A CRC-16 over stored values, with the polynomial and initial value of the port frames; their layout in
bytes is not given (log 6). -/
def storedCheck (items : List Nat) : BitVec 16 := crc16 (Config.storedBytes items)

/-- The check of an image (section 11.2). -/
def ImageData.check (d : ImageData) : BitVec 16 := storedCheck d.items

/-- The trip area's own check (R146). -/
def areaCheck (latch : Bool) (record : Option TripRecord) : BitVec 16 :=
  storedCheck (latch.toNat :: tripItems record)

/-- What the load finds in an image: its contents when it is not blank and its check matches (R169). -/
def Image.contents : Image → Option ImageData
  | .blank => none
  | .written d check => if check = d.check then some d else none

/-- What the load finds in the trip area: its latch and record when it is not blank and its check
matches (R146). -/
def TripArea.contents : TripArea → Option (Bool × Option TripRecord)
  | .blank => none
  | .written latch record check =>
    if check = areaCheck latch record then some (latch, record) else none

/-- An image as a save writes it, with its check (R170). -/
def ImageData.stored (d : ImageData) : Image := .written d d.check

/-- The trip area as a write leaves it, with its check (R146). -/
def AreaWrite.stored (w : AreaWrite) : TripArea :=
  .written w.latch w.record (areaCheck w.latch w.record)

/-! ### Saving (R170, R171) and the trip area (R146) -/

/-- The stored fields of an entry. -/
def Fields.stored (f : Fields) : StoredLoad :=
  { startWanted := f.startWanted, essential := f.essential, deferrable := f.deferrable,
    member := f.member, watts := f.watts }

/-- The working values a save takes (R170): the active regulation copy, the other groups, the entries'
stored fields, the chain and the pages. -/
def State.workingImage (s : State) : ImageData :=
  { regulation := s.brg.active
    settings := s.settings
    loads := Vector.ofFn (fun e => (s.load e).fields.stored)
    chain := { head := s.ltc.chain.head?, links := Vector.ofFn (chainLink s.ltc.chain) }
    pages := s.rtp.pages }

/-- A trip-area write may start: marked PENDING, none running, the store in SAVE IDLE (R146). -/
def State.areaWriteDue (s : State) : Bool :=
  decide (s.tsv.mark = .pending) && s.sst.areaWrite.isNone
    && (match s.sst.save with | .idle => true | _ => false)

/-- The start of a trip-area write, carrying the latch and record as they stand (R146). -/
def State.startAreaWrite (s : State) : State :=
  if s.areaWriteDue then
    { s with
      tsv := { s.tsv with mark := .inProgress }
      sst :=
        { s.sst with
          areaWrite := some { start := s.timebase, latch := s.tsv.latch, record := s.tsv.record } } }
  else s

/-- TRIP_AREA_WRITE_START (R146). -/
def execTripAreaWriteStart (s : State) : Answer := .next <| s.whenRunning State.startAreaWrite

/-- TRIP_AREA_WRITE_END (R146): the area holds what was written, with its check; a mark still IN PROGRESS
clears, and one set to PENDING meanwhile starts a further write. -/
def execTripAreaWriteEnd (s : State) : Answer :=
  .next <| s.whenRunning fun s =>
    match s.sst.areaWrite with
    | some w =>
      { s with
        sst := { s.sst with areaWrite := none, tripArea := w.stored }
        tsv :=
          { s.tsv with mark := if s.tsv.mark = WriteMark.inProgress then .clear else s.tsv.mark } }.startAreaWrite
    | none => s

/-- SAVE RUNNING entered, with the working values as they stand (R170). -/
def State.runSave (s : State) : State :=
  { s with sst := { s.sst with save := .running s.timebase s.workingImage } }

/-- SAVE_SETTINGS (R170). A trip-area write that was to start at once has started before it (log 29). -/
def execSaveSettings (p : Port) (s : State) : Answer :=
  .next <| s.request .saveSettings (.saveSettings p) p fun s =>
    match s.sst.save with
    | .idle =>
      let t := s.startAreaWrite
      (if t.sst.areaWrite.isSome then { t with sst := { t.sst with save := .waiting } }
       else t.runSave).done
    | _ => s.refuse .busy

/-- A waiting save may run: no trip-area write is in progress (R170). -/
def State.saveRunDue (s : State) : Bool :=
  (match s.sst.save with | .waiting => true | _ => false) && s.sst.areaWrite.isNone

/-- SAVE_RUN_START (R170). -/
def execSaveRunStart (s : State) : Answer :=
  .next <| s.whenRunning fun s => if s.saveRunDue then s.runSave else s

/-- SAVE_END (R171), with whether the image reads back as written. -/
def execSaveEnd (agrees : Bool) (s : State) : Answer :=
  .next <| s.whenRunning fun s =>
    match s.sst.save with
    | .running _ image =>
      let t :=
        { s with
          sst :=
            { s.sst with
              save := .idle, image := if agrees then image.stored else s.sst.image } }
      let t := t.notice .settingsSaved 0 (if agrees then 0 else 1)
      (if agrees then t else t.raise .saveFailed).startAreaWrite
    | _ => s

end Sys2Proof.Machine
end

