-- ==== Sys2Proof/Machine/StartUp.lean ====
section
/-! DEFINITION. Full reset and start-up (sections 11.2 and 11.5): the Supply Monitor's assertion and
release, the end of the settings load, and the completion of start-up. -/

namespace Sys2Proof.Machine

/-! ### Assertion and release (R176) -/

/-- The supply threshold in mV. -/
def State.threshold (s : State) : Nat := if s.settings.device.threshold295 then 2950 else 2700

/-- A full reset in force (R73, R123, R141, R174, R176): the device with every volatile item at its
full-reset value (log 48); the nonvolatile store, the input levels, the model's queue and its counter of
draws are kept. -/
def State.enterPhase (s : State) (phase : Phase) (supply : Supply) : State :=
  { State.cold phase supply s.sst.image s.sst.tripArea s.sws.aux s.sws.estop s.setupEn with
    draws := s.draws, pending := s.pending }

/-- The supply's story after an assertion, or none when the trigger asserts nothing (R176; logs 9
and 44). -/
def State.assertedBy (s : State) : ResetTrigger → Option Supply
  | .supplyApplied => some { cause := .powerOn, released := false }
  | .supplyAt mv =>
    if mv < s.threshold then
      some { s.supply with cause := if s.supply.released then .brownOut else s.supply.cause }
    else none
  | .rstLow => some { s.supply with cause := .pin }

/-- FULL_RESET_ASSERT (R176). -/
def execFullResetAssert (trigger : ResetTrigger) (s : State) : Answer :=
  .next <|
    match s.assertedBy trigger with
    | some supply => s.enterPhase .held supply
    | none => s

/-- The reset may be released: the supply has stayed above the threshold for 10 ms and RST_N is high
(R176). -/
def State.mayRelease (s : State) (leastMillivolts : Nat) (rstHigh : Bool) : Bool :=
  decide (s.phase = .held) && decide (s.threshold < leastMillivolts) && rstHigh

/-- FULL_RESET_RELEASE (R2, R176, R177), with the least supply voltage of the last 10 ms (log 9). -/
def execFullResetRelease (leastMillivolts : Nat) (rstHigh : Bool) (s : State) : Answer :=
  .next <|
    if s.mayRelease leastMillivolts rstHigh then
      s.enterPhase .starting { s.supply with released := true }
    else s

/-! ### The load (R169) -/

/-- The loaded image: the stored one when its check matches, the factory defaults otherwise (R169). -/
def Image.loaded (i : Image) : ImageData := i.contents.getD ImageData.factory

/-- A stored entry that fails the check of R72. -/
def StoredLoad.fails (l : StoredLoad) (e : Entry) : Bool :=
  l.member && (l.essential || e == 14 || e == 15) || l.startWanted && e == 14

/-- A stored entry as loaded (R72): wanted no, OFF, load-not-seen no. -/
def StoredLoad.load (l : StoredLoad) (e : Entry) : Load :=
  let bad := l.fails e
  { fields :=
      { wanted := false, startWanted := l.startWanted && !bad, essential := l.essential,
        deferrable := l.deferrable, member := l.member && !bad, watts := min maxWatts l.watts }
    state := .off, notSeen := false }

/-- The chain a head and links spell, when they reach the end within the steps given (R90). -/
def StoredChain.walk (c : StoredChain) : Nat → Option Entry → Option (List Entry)
  | _, none => some []
  | 0, some _ => none
  | n + 1, some e =>
    match c.links.get e with
    | some next => (c.walk n next).map (e :: ·)
    | none => none

/-- The stored chain when it is valid with the loaded essential fields (R90). -/
def ImageData.validChain (d : ImageData) : Option (List Entry) :=
  match d.chain.walk 15 d.chain.head with
  | some l => if l.any (fun e => (d.loads.get e).essential) then none else some l
  | none => none

/-- The load raises SETTINGS DEFAULTED: no valid image, or an entry or the chain failing its check
(R169). -/
def Image.defaulted (i : Image) : Bool :=
  i.contents.isNone
    || Entry.all.any (fun e => (i.loaded.loads.get e).fails e)
    || i.loaded.validChain.isNone

/-- The regulator at the end of the load (R20). -/
def Ballast.load (b : Ballast) (r : RegParams) : Ballast :=
  { b with
    active := r, shadow := r, d := r.startDemand, a := 16 * r.startDemand,
    wd := wattsOf r.startDemand (rtotOf r.banks), firstUpdate := true }

/-- The trip latch and record at the end of the load (R141). -/
def Turbine.load (t : Turbine) (a : TripArea) : Turbine :=
  match a.contents with
  | some (latch, record) =>
    { t with
      latch := latch, record := record, direction := if latch then .tripped else .hold, excess := 0 }
  | none => { t with latch := false, record := none, direction := .hold, excess := 0 }

/-- A port with the baud rate of the load (R162). -/
def PortLink.load (l : PortLink) (baud : Nat) : PortLink := { l with lineBaud := baud }

/-- Every block's loaded values taken (R20, R38, R72, R90, R111, R141, R162, R169); ALARM follows the
loaded masks and severities (R174). -/
def State.takeLoad (s : State) : State :=
  let d := s.sst.image.loaded
  State.judgeAlarm { s with
    settings := d.settings
    brg := s.brg.load d.regulation
    bfu := { s.bfu with banks := d.regulation.banks }
    ltc :=
      { s.ltc with
        loads := Vector.ofFn (fun e => (d.loads.get e).load e), chain := d.validChain.getD [] }
    rtp := { s.rtp with pages := d.pages }
    tsv := s.tsv.load s.sst.tripArea
    ports :=
      ⟨s.ports.g.load d.settings.device.baud.g, s.ports.s.load d.settings.device.baud.s,
       s.ports.h.load d.settings.device.baud.h⟩ }

/-- The raises of the load, judged against the loaded masks, SETTINGS DEFAULTED first (R141, R169, R175;
log 30). -/
def State.loadRaises (s : State) : State :=
  let t := if s.sst.image.defaulted then s.takeRaise ⟨.settingsDefaulted, .other⟩ else s
  if t.tsv.latch then t.takeRaise ⟨.overspeedTrip, t.ownOf .overspeedTrip⟩ else t

/-- Presence timers started at the completion of start-up (R161). -/
def State.startPresence (s : State) : State :=
  Port.all.foldl (fun s p => s.setPort p { s.port p with silence := s.silenceStart p }) s

/-- The auxiliaries read at the completion of start-up (R123). -/
def State.readAuxiliaries (s : State) : State :=
  match s.sws.lowestClosed with
  | some k =>
    { s with
      sws :=
        { s.sws with
          latch := true
          record := some { contactor := k, kind := .uncommanded, stage := .off, time := s.timebase } } }.takeRaise
      ⟨.sawContactor, s.ownOf .sawContactor⟩
  | none => s

/-- Start-up complete, each block acting by its own chapter (R177). R177 lists what the blocks do and gives
their acts no order; the model takes them in the order of its list, so the regulator is in its state
before the auxiliaries are read, and the snapshot of a SAW CONTACTOR raised there shows it (DESIGN CHOICE,
log 52). -/
def State.completeStartUp (s : State) : State :=
  let s := { s with phase := .running, clockMs := 0, clockUs := 0 }.startPresence
  let s :=
    { s with
      tsv :=
        { s.tsv with
          runPermit := !s.tsv.latch
          reference := if s.tsv.latch then .since s.timebase else s.tsv.reference } }
  let s := s.settleRegulation
  let s := { s with shc := { s.shc with lineLoss := some s.timebase } }
  let s := s.readAuxiliaries
  s.forEntries (fun s e => (s.load e).fields.startWanted) (fun s e => s.wantEntry e .startUp)

/-- SETTINGS_LOAD_END (R169, R177). R38 has the unit form its next allocation from D and Wd when start-up
completes, and names no exception. The regulator therefore gives the Bank Firing Unit the D and Wd of the
load (R20) as a demand change at every load, also when they are 0 as before, and also with regulation
enable no, where it stays BALLAST STOPPED and has no change of state to make known (DEDUCED, log 51). -/
def execSettingsLoadEnd (s : State) : Answer :=
  .next <|
    if s.phase = .starting then
      s.takeLoad.loadRaises.giveDemand.completeStartUp
    else s

end Sys2Proof.Machine
end

