-- ==== Sys2Proof/Machine/Status.lean ====
section
/-! DEFINITION. READ STATUS (R158): the ten sections of its table, each in the order and the sizes
given there. Times left are in ms, 0 for a timer that is not running. -/

namespace Sys2Proof.Machine

/-- Section 0 GENERAL. -/
def State.generalSection (s : State) : List Byte :=
  Wide.bytes s.timebase ++ n1 s.rfm.state.number ++ n1 s.supply.cause.ctorIdx
    ++ flagByte s.ports.g.present ++ flagByte s.ports.s.present ++ flagByte s.ports.h.present
    ++ flagByte s.setupEn ++ flagByte s.flu.alarm

/-- The period ring in four places, oldest first, unused places 0. -/
def ringBytes (ring : List Nat) : List Byte :=
  (ring ++ List.replicate (4 - ring.length) 0).flatMap n2

/-- Section 1 LINE. -/
def State.lineSection (s : State) : List Byte :=
  let m := s.lnm
  n1 m.state.number ++ n4 m.f ++ n2 m.h ++ n1 m.ring.length ++ ringBytes m.ring
    ++ captureBytes m.lastRise ++ captureBytes m.lastFall ++ n2 m.rejectedEdges
    ++ n2 m.rejectedPeriods

/-- Section 2 REGULATION. -/
def State.regulationSection (s : State) : List Byte :=
  let b := s.brg
  n1 b.state.number ++ n2 b.d ++ n4 b.wd ++ i2 b.lastError ++ n4 (floorOf b.ring)
    ++ n1 b.ring.length ++ n2 b.a ++ n1 (b.satHigh.toNat + 2 * b.exhausted.toNat) ++ n1 b.satCount
    ++ flagByte b.transferEnable ++ n4 s.rtot

/-- One bank of the current set. A NOT FIRED bank has no delay to show (log 14). -/
def bankBytes (h : Nat) (b : BankSet) : List Byte :=
  n2 b.q ++ n2 (b.delay.getD (Config.notFiredDelay h)) ++ n1 b.mark.ctorIdx

/-- Section 3 FIRING; the bytes of an absent allocation or set are unstated (log 15). -/
def State.firingSection (s : State) : List Byte :=
  let u := s.bfu
  n1 u.state.ctorIdx ++ flagByte u.next.isSome
    ++ (match u.next with
        | some q => n2 q.b0 ++ n2 q.b1 ++ n2 q.b2
        | none => s.unstated 0 6)
    ++ flagByte u.current.isSome
    ++ (match u.current with
        | some c =>
          n2 c.h ++ bankBytes c.h c.banks.b0 ++ bankBytes c.h c.banks.b1 ++ bankBytes c.h c.banks.b2
        | none => s.unstated 6 17)

/-- Section 4 ADMISSION; surge, DISPLACE and displacement-done of an absent saw request are unstated
(log 15). -/
def State.admissionSection (s : State) : List Byte :=
  let a := s.adu
  i4 s.headroom ++ n4 a.floor ++ n2 s.reserveEff ++ flagByte a.crystal ++ n4 (heldWatts a.table)
    ++ n2 (inMs (s.left a.lastGrant (s.settings.admission.restoreSpacing * 1000)))
    ++ flagByte a.saw.isSome
    ++ (match a.saw with
        | some q => n2 q.surge ++ flagByte q.displace ++ flagByte q.displaced
        | none => s.unstated 0 4)
    ++ n4 (inMs (s.left s.sawWait (s.settings.admission.sawWaitLimit * 1000000)))

/-- One held record. -/
def State.reservationBytes (s : State) (r : Reservation) : List Byte :=
  n1 r.slot.val ++ n1 r.entry.val ++ n2 r.watts ++ n4 r.wdRef ++ Wide.bytes r.time
    ++ n1 r.origin.ctorIdx
    ++ n2 (inMs (s.left (some r.time) (s.settings.admission.settleWindow * 1000)))

/-- Section 5 RESERVATIONS. -/
def State.reservationSection (s : State) : List Byte :=
  n1 s.adu.table.length ++ s.adu.table.flatMap s.reservationBytes

/-- Section 6 QUEUE. -/
def State.queueSection (s : State) : List Byte :=
  n1 s.adu.queue.length ++ s.adu.queue.flatMap (fun e => n1 e.val ++ n2 (s.grantWatts e))

/-- Section 7 SHED. -/
def State.shedSection (s : State) : List Byte :=
  let c := s.shc
  n1 c.state.number ++ n1 c.count ++ n1 c.stack.length
    ++ n4 (inMs (s.left c.recovery (s.settings.admission.recoveryHold * 1000000)))
    ++ flagByte c.restartPending
    ++ n4 (inMs (s.left c.restart (s.settings.admission.restartHold * 1000000)))
    ++ n2 (inMs (s.left c.lineLoss 2000000))

/-- The saw fault record's contactor, kind, stage and timebase, unstated when it is absent (log 15). -/
def State.sawRecordBytes (s : State) : List Byte :=
  match s.sws.record with
  | some r =>
    n1 1 ++ n1 r.contactor.ctorIdx ++ n1 r.kind.ctorIdx ++ n1 r.stage.number ++ Wide.bytes r.time
  | none => n1 0 ++ s.unstated 0 7

/-- Section 8 SAW. -/
def State.sawSection (s : State) : List Byte :=
  let w := s.sws
  n1 w.stage.number ++ contactorBits w.commands ++ contactorBits w.aux ++ flagByte w.estop
    ++ flagByte w.latch ++ s.sawRecordBytes ++ n1 ((w.lastStop.map SawCause.number).getD 0xFF)
    ++ n2 (inMs (s.left w.dwell (s.settings.admission.starDwell * 1000)))
    ++ n2 (inMs (s.left w.dead (s.settings.admission.deadTime * 1000)))
    ++ n2 (inMs (s.left w.stopping 500000))
    ++ contactorBits ⟨w.checks.main.isSome, w.checks.star.isSome, w.checks.delta.isSome⟩

/-- Section 9 ENTRIES. -/
def State.entriesSection (s : State) : List Byte :=
  Entry.all.flatMap (fun e => n1 (s.entryState e).number)

/-- A section by its number (R158). -/
def State.section (s : State) : Nat → Option (List Byte)
  | 0 => some s.generalSection
  | 1 => some s.lineSection
  | 2 => some s.regulationSection
  | 3 => some s.firingSection
  | 4 => some s.admissionSection
  | 5 => some s.reservationSection
  | 6 => some s.queueSection
  | 7 => some s.shedSection
  | 8 => some s.sawSection
  | 9 => some s.entriesSection
  | _ => none

/-- READ_STATUS (R158). -/
def execReadStatus (p : Port) (sectionNumber : Byte) (s : State) : Answer :=
  .next <| s.request .readStatus (.readStatus p sectionNumber) p fun s =>
    match s.section sectionNumber.toNat with
    | some data => (s.draw, .done, data)
    | none => s.refuse .malformed

end Sys2Proof.Machine
end

