-- ==== Sys2Proof/Machine/Dispatch.lean ====
section
/-! DEFINITION. One arm for each command: its meaning, called by its full name. -/

namespace Sys2Proof.Machine

/-- The effect of a command on everything but the queue. -/
def exec (i : Instr) (s : State) : Host.Outcome State Fault Refusal :=
  match i with
  | .fullResetAssert trigger => Sys2Proof.Machine.execFullResetAssert trigger s
  | .fullResetRelease leastMillivolts rstHigh => Sys2Proof.Machine.execFullResetRelease leastMillivolts rstHigh s
  | .settingsLoadEnd => Sys2Proof.Machine.execSettingsLoadEnd s
  | .checkWindowEnd cycles => Sys2Proof.Machine.execCheckWindowEnd cycles s
  | .noGoodWindowTimeout => Sys2Proof.Machine.execNoGoodWindowTimeout s
  | .retryReference p => Sys2Proof.Machine.execRetryReference p s
  | .sourceSwitch => Sys2Proof.Machine.execSourceSwitch s
  | .lineZcEdge polarity => Sys2Proof.Machine.execLineZcEdge polarity s
  | .absenceTimerExpiry => Sys2Proof.Machine.execAbsenceTimerExpiry s
  | .regulationUpdate v => Sys2Proof.Machine.execRegulationUpdate v s
  | .applyRegulation p => Sys2Proof.Machine.execApplyRegulation p s
  | .lineStateAtRegulator l => Sys2Proof.Machine.execLineStateAtRegulator l s
  | .halfCycleStart c => Sys2Proof.Machine.execHalfCycleStart c s
  | .gatePulseDue b => Sys2Proof.Machine.execGatePulseDue b s
  | .gatePulseEnd b => Sys2Proof.Machine.execGatePulseEnd b s
  | .recordAtFiring r => Sys2Proof.Machine.execRecordAtFiring r s
  | .demandChange c => Sys2Proof.Machine.execDemandChange c s
  | .regStateAtFiring c => Sys2Proof.Machine.execRegStateAtFiring c s
  | .lineStateAtFiring l => Sys2Proof.Machine.execLineStateAtFiring l s
  | .recordAtAdmission r => Sys2Proof.Machine.execRecordAtAdmission r s
  | .regStateAtAdmission c => Sys2Proof.Machine.execRegStateAtAdmission c s
  | .reservationExpiry slot => Sys2Proof.Machine.execReservationExpiry slot s
  | .lastGrantTimeEmptied => Sys2Proof.Machine.execLastGrantTimeEmptied s
  | .sawWaitExpiry => Sys2Proof.Machine.execSawWaitExpiry s
  | .writeEntry p entry flags watts mask => Sys2Proof.Machine.execWriteEntry p entry flags watts mask s
  | .fillEntries p base selection => Sys2Proof.Machine.execFillEntries p base selection s
  | .setFieldMask p mask => Sys2Proof.Machine.execSetFieldMask p mask s
  | .setFill p flags watts => Sys2Proof.Machine.execSetFill p flags watts s
  | .readEntry p entry => Sys2Proof.Machine.execReadEntry p entry s
  | .chainPlace p entry anchor => Sys2Proof.Machine.execChainPlace p entry anchor s
  | .chainRemove p entry => Sys2Proof.Machine.execChainRemove p entry s
  | .readChain p => Sys2Proof.Machine.execReadChain p s
  | .sawStoppedReport => Sys2Proof.Machine.execSawStoppedReport s
  | .slotApplication allowed => Sys2Proof.Machine.execSlotApplication allowed s
  | .lineLossRequest => Sys2Proof.Machine.execLineLossRequest s
  | .recordAtShed r => Sys2Proof.Machine.execRecordAtShed r s
  | .recoveryHoldExpiry => Sys2Proof.Machine.execRecoveryHoldExpiry s
  | .regStateAtShed c => Sys2Proof.Machine.execRegStateAtShed c s
  | .lineStateAtShed l => Sys2Proof.Machine.execLineStateAtShed l s
  | .lineLossTimerExpiry => Sys2Proof.Machine.execLineLossTimerExpiry s
  | .restartHoldExpiry => Sys2Proof.Machine.execRestartHoldExpiry s
  | .rotaWrite p page first sets => Sys2Proof.Machine.execRotaWrite p page first sets s
  | .rotaStart p page tap => Sys2Proof.Machine.execRotaStart p page tap s
  | .rotaSplit p page tap => Sys2Proof.Machine.execRotaSplit p page tap s
  | .rotaStop p => Sys2Proof.Machine.execRotaStop p s
  | .readRota p selection => Sys2Proof.Machine.execReadRota p selection s
  | .slotTimerSecond => Sys2Proof.Machine.execSlotTimerSecond s
  | .slotTimerExpiry => Sys2Proof.Machine.execSlotTimerExpiry s
  | .sawStart p surge displace => Sys2Proof.Machine.execSawStart p surge displace s
  | .beginSignal => Sys2Proof.Machine.execBeginSignal s
  | .starDwellExpiry => Sys2Proof.Machine.execStarDwellExpiry s
  | .deadTimeExpiry => Sys2Proof.Machine.execDeadTimeExpiry s
  | .checkTimerExpiry k => Sys2Proof.Machine.execCheckTimerExpiry k s
  | .auxChange k closed => Sys2Proof.Machine.execAuxChange k closed s
  | .stoppingLimitExpiry => Sys2Proof.Machine.execStoppingLimitExpiry s
  | .sawEstopChange asserted => Sys2Proof.Machine.execSawEstopChange asserted s
  | .sawStop p => Sys2Proof.Machine.execSawStop p s
  | .stopFromLoadTable cause => Sys2Proof.Machine.execStopFromLoadTable cause s
  | .clearSawFault p => Sys2Proof.Machine.execClearSawFault p s
  | .recordAtTurbine r => Sys2Proof.Machine.execRecordAtTurbine r s
  | .regStateAtTurbine c => Sys2Proof.Machine.execRegStateAtTurbine c s
  | .lineStateAtTurbine l => Sys2Proof.Machine.execLineStateAtTurbine l s
  | .shaftPulse => Sys2Proof.Machine.execShaftPulse s
  | .shaftGapTimerExpiry => Sys2Proof.Machine.execShaftGapTimerExpiry s
  | .standstillTimerExpiry => Sys2Proof.Machine.execStandstillTimerExpiry s
  | .trip p => Sys2Proof.Machine.execTrip p s
  | .tripReset p => Sys2Proof.Machine.execTripReset p s
  | .tripResetTimeMet => Sys2Proof.Machine.execTripResetTimeMet s
  | .gateOpen p amount => Sys2Proof.Machine.execGateOpen p amount s
  | .gateClose p amount => Sys2Proof.Machine.execGateClose p amount s
  | .tokenGain => Sys2Proof.Machine.execTokenGain s
  | .readTurbine p => Sys2Proof.Machine.execReadTurbine p s
  | .tripAreaWriteStart => Sys2Proof.Machine.execTripAreaWriteStart s
  | .tripAreaWriteEnd => Sys2Proof.Machine.execTripAreaWriteEnd s
  | .rxByte p b setupEn => Sys2Proof.Machine.execRxByte p b setupEn s
  | .frameTimeout p => Sys2Proof.Machine.execFrameTimeout p s
  | .responseStart p => Sys2Proof.Machine.execResponseStart p s
  | .responseEnd p => Sys2Proof.Machine.execResponseEnd p s
  | .lineBreak p => Sys2Proof.Machine.execLineBreak p s
  | .portReset p => Sys2Proof.Machine.execPortReset p s
  | .presenceTimerExpiry p => Sys2Proof.Machine.execPresenceTimerExpiry p s
  | .readLinkFault p of => Sys2Proof.Machine.execReadLinkFault p of s
  | .clearLinkFault p => Sys2Proof.Machine.execClearLinkFault p s
  | .readStatus p sectionNumber => Sys2Proof.Machine.execReadStatus p sectionNumber s
  | .noticeDelivery kind subject value => Sys2Proof.Machine.execNoticeDelivery kind subject value s
  | .setNoticeControl p enable hold route mask => Sys2Proof.Machine.execSetNoticeControl p enable hold route mask s
  | .takeNotices p count => Sys2Proof.Machine.execTakeNotices p count s
  | .faultRaise raised => Sys2Proof.Machine.execFaultRaise raised s
  | .clearFaults p kinds => Sys2Proof.Machine.execClearFaults p kinds s
  | .readFaults p => Sys2Proof.Machine.execReadFaults p s
  | .readSetting p group item index => Sys2Proof.Machine.execReadSetting p group item index s
  | .writeSetting p group item index value => Sys2Proof.Machine.execWriteSetting p group item index value s
  | .saveSettings p => Sys2Proof.Machine.execSaveSettings p s
  | .saveRunStart => Sys2Proof.Machine.execSaveRunStart s
  | .saveEnd agrees => Sys2Proof.Machine.execSaveEnd agrees s
  | .rxGoneHigh p => Sys2Proof.Machine.execRxGoneHigh p s

end Sys2Proof.Machine
end

