-- ==== Sys2Proof/Machine/Idle.lean ====
section
/-! DEFINITION. What happens on an empty queue (logs 1 and 2): the next of the events that are announced
or due at this moment is put into the queue, in an order the manual leaves open; with none of them, time
moves on by one microsecond. -/

namespace Sys2Proof.Machine

/-! ### Time -/

/-- One microsecond of the timebase (R1) and of the notice clock (R163, R177); none passes while a full
reset is asserted. -/
def State.tick (s : State) : State :=
  match s.phase with
  | .held => s
  | .starting => { s with timebase := s.timebase + 1 }
  | .running =>
    if s.clockUs + 1 < 1000 then { s with timebase := s.timebase + 1, clockUs := s.clockUs + 1 }
    else { s with timebase := s.timebase + 1, clockUs := 0, clockMs := s.clockMs + 1 }

/-! ### Events that are due by the device's own time -/

/-- An event listed when it is due. -/
def dueWhen (due : Bool) (i : Instr) : List Instr := if due then [i] else []

/-- The load has run its 20 ms (R169; log 21). -/
def State.loadDue (s : State) : Bool := decide (20000 ≤ s.elapsed s.sst.loadStart)

/-- A formed response has waited 1 ms (R157; log 19). -/
def State.responseDue (s : State) (p : Port) : Bool :=
  match (s.port p).tx with
  | .ready t _ => decide (1000 ≤ s.elapsed t)
  | _ => false

/-- A response has been sent: ten bits a byte at the line's rate (section 10.1; log 20). -/
def State.sentDue (s : State) (p : Port) : Bool :=
  match (s.port p).tx with
  | .sending t frame => decide (frame.length * 10000000 ≤ s.elapsed t * (s.port p).lineBaud)
  | _ => false

/-- A trip-area write has run its 20 ms (R146; log 21). -/
def State.areaWriteOver (s : State) : Bool := s.ranOut (s.sst.areaWrite.map (·.start)) 20000

/-- A save has run its 250 ms (R171; log 21). -/
def State.saveOver (s : State) : Bool :=
  match s.sst.save with
  | .running t _ => s.ranOut (some t) 250000
  | _ => false

/-- The events due at one port. -/
def State.portDue (s : State) (p : Port) : List Instr :=
  dueWhen (s.gapIsNoBreak p) (.frameTimeout p) ++ dueWhen (s.responseDue p) (.responseStart p)
    ++ dueWhen (s.sentDue p) (.responseEnd p) ++ dueWhen (s.silenceDue p) (.presenceTimerExpiry p)

/-- The events due while the device runs. -/
def State.runningDue (s : State) : List Instr :=
  dueWhen s.noGoodWindowDue .noGoodWindowTimeout
    ++ dueWhen s.absenceDue .absenceTimerExpiry
    ++ Bank.all.flatMap (fun b => dueWhen (s.pulseIsDue b) (.gatePulseDue b))
    ++ Bank.all.flatMap (fun b => dueWhen (s.pulseIsOver b) (.gatePulseEnd b))
    ++ [(0 : Fin 4), 1, 2, 3].flatMap
        (fun k => dueWhen (s.expiredRecord k).isSome (.reservationExpiry k))
    ++ dueWhen s.lastGrantOld .lastGrantTimeEmptied
    ++ dueWhen s.sawWaitDue .sawWaitExpiry
    ++ dueWhen s.recoveryDue .recoveryHoldExpiry
    ++ dueWhen s.lineLossDue .lineLossTimerExpiry
    ++ dueWhen s.restartDue .restartHoldExpiry
    ++ dueWhen s.secondDue .slotTimerSecond
    ++ dueWhen s.slotDue .slotTimerExpiry
    ++ dueWhen s.dwellDue .starDwellExpiry
    ++ dueWhen s.deadTimeDue .deadTimeExpiry
    ++ Contactor.all.flatMap (fun k => dueWhen (s.checkDue k) (.checkTimerExpiry k))
    ++ dueWhen s.stoppingLimitDue .stoppingLimitExpiry
    ++ dueWhen s.gapDue .shaftGapTimerExpiry
    ++ dueWhen s.standstillDue .standstillTimerExpiry
    ++ dueWhen s.referenceDue .tripResetTimeMet
    ++ dueWhen s.gainDue .tokenGain
    ++ dueWhen s.areaWriteDue .tripAreaWriteStart
    ++ dueWhen s.areaWriteOver .tripAreaWriteEnd
    ++ dueWhen s.saveRunDue .saveRunStart
    ++ dueWhen s.saveOver (.saveEnd (Config.readBackAgrees s.draws))
    ++ Port.all.flatMap s.portDue

/-- The events due at this moment. -/
def State.dueEvents (s : State) : List Instr :=
  match s.phase with
  | .held => []
  | .starting =>
    dueWhen s.noGoodWindowDue .noGoodWindowTimeout ++ dueWhen s.loadDue .settingsLoadEnd
  | .running => s.runningDue

/-! ### Order (log 2) -/

/-- The blocks between which events are announced (00_scope.md, block table). -/
inductive Block where
  | rfm | lnm | brg | bfu | adu | ltc | shc | rtp | sws | tsv | port (p : Port) | ntu | flu | sst
deriving DecidableEq, Repr

/-- The block with whose notices a notice of a kind keeps its order: the block that gives it (section
10.5), but for two kinds that the rules set in an order with ENTRY CHANGED, which the Load Table Controller
gives: SHED STATE comes after the ENTRY CHANGED of the shed (R108), and ROTA CROSSED ahead of those the
slot's application causes (R115). -/
def giverOf (k : NoticeKind) (subject : Nat) : Block :=
  match k with
  | .entryChanged | .shedState | .rotaCrossed => .ltc
  | .reservationEnded | .sawRefused => .adu
  | .sawStage => .sws
  | .lineState => .lnm
  | .referenceState => .rfm
  | .gateAdvice | .trip => .tsv
  | .faultRaised => .flu
  | .settingsSaved => .sst
  | .portPresence => .port ((Port.ofNumber subject).getD .g)
  | .regulationApplied => .brg

/-- The block that raises a fault of a kind (section 11.4). -/
def raiserOf : FaultKind → Block
  | .lineLost => .lnm
  | .referenceFallback => .rfm
  | .beltSlip | .shaftStill | .overspeedTrip => .tsv
  | .ballastNone | .ballastSaturated => .brg
  | .shedExhausted => .shc
  | .sawContactor => .sws
  | .loadNotSeen => .adu
  | .settingsDefaulted | .saveFailed => .sst
  | .portSilent => .port .g

/-- What an event goes over: from one block to another, where events keep their order; or a way of its
own, by the command and a number within it. -/
inductive Channel where
  | between (source taker : Block)
  | own (command sub : Nat)
deriving DecidableEq, Repr

/-- The channel of a command. Two events of one channel keep their order; others are taken in either
order. Reservation expiries share one, since they go in slot order (R59). -/
def channelOf (i : Instr) : Channel :=
  match i with
  | .sourceSwitch => .between .rfm .lnm
  | .lineStateAtRegulator _ | .regulationUpdate _ => .between .lnm .brg
  | .lineStateAtShed _ => .between .lnm .shc
  | .lineStateAtTurbine _ => .between .lnm .tsv
  | .lineStateAtFiring _ | .halfCycleStart _ => .between .lnm .bfu
  | .recordAtFiring _ | .demandChange _ | .regStateAtFiring _ => .between .brg .bfu
  | .recordAtAdmission _ | .regStateAtAdmission _ => .between .brg .adu
  | .recordAtShed _ | .regStateAtShed _ => .between .brg .shc
  | .recordAtTurbine _ | .regStateAtTurbine _ => .between .brg .tsv
  | .beginSignal | .stopFromLoadTable _ => .between .ltc .sws
  | .sawStoppedReport => .between .sws .ltc
  | .slotApplication _ => .between .rtp .ltc
  | .lineLossRequest => .between .shc .ltc
  | .noticeDelivery k subject _ => .between (giverOf k subject) .ntu
  | .faultRaise x => .between (raiserOf x.kind) .flu
  | .gatePulseDue b => .own i.ctorIdx b.val
  | .gatePulseEnd b => .own i.ctorIdx b.val
  | .checkTimerExpiry k => .own i.ctorIdx k.ctorIdx
  | .frameTimeout p | .responseStart p | .responseEnd p | .presenceTimerExpiry p =>
    .own i.ctorIdx p.number
  | _ => .own i.ctorIdx (i.asRequest.elim 0 (fun r => r.2.1.number))

/-- The first of a list of events that goes over the same channel as one of them. -/
def headOfChannel (events : List Instr) (i : Instr) : Instr :=
  (events.find? (fun j => channelOf j = channelOf i)).getD i

/-- The event taken next, and put into the queue: the first of its channel. -/
def State.bring (s : State) (i : Instr) : State :=
  { s with pending := [i], posted := s.posted.erase i, draws := s.draws + 1 }

/-- One of a list of events, by the free order (log 2). -/
def pick (events : List Instr) (draws : Nat) : Option Instr :=
  events[Config.freeOrder draws % events.length]?

/-- What the device does with an empty queue. -/
def State.idle (s : State) : State :=
  match pick (s.posted ++ s.dueEvents) s.draws with
  | some i => s.bring (headOfChannel (s.posted ++ s.dueEvents) i)
  | none => s.tick

end Sys2Proof.Machine
end

