-- ==== Sys2Proof/Safety.lean ====
section
/-! DEFINITION. What the manual says of the whole machine, as properties of one state: the laws that
hold between its blocks whatever commands come, and the ranges of its settings. -/

namespace Sys2Proof.Machine

/-- A property that every step keeps. -/
def Kept (P : State → Prop) : Prop := ∀ s t, P s → step s = .next t → P t

/-! ### The saw (R123, R125 to R127, R130 to R132) -/

/-- The contactors commanded CLOSED in each stage (the table of section 8.1's stages). -/
def stageCommands : SawStage → PerContactor Bool
  | .star => ⟨true, true, false⟩
  | .changeover => ⟨true, false, false⟩
  | .delta => ⟨true, false, true⟩
  | .off | .waiting | .stopping | .fault => ⟨false, false, false⟩

/-- The contactor commands are those of the stage; each timer runs only in the stage that owns it; and
in SAW FAULT the latch is set with a record. -/
def SawLaw (s : State) : Prop :=
  s.sws.commands = stageCommands s.sws.stage
    ∧ (s.sws.dwell.isSome = true ↔ s.sws.stage = .star)
    ∧ (s.sws.dead.isSome = true → s.sws.stage = .changeover)
    ∧ (s.sws.stopping.isSome = true ↔ s.sws.stage = .stopping)
    ∧ (s.sws.stage ∈ [SawStage.off, .waiting, .stopping, .fault] → s.sws.checks = ⟨none, none, none⟩)
    ∧ (s.sws.stage = .fault → s.sws.latch = true ∧ s.sws.record.isSome = true)

/-! ### Run permit (R142) and alarm (R174) -/

/-- RUN_PERMIT is high only while start-up is complete and the trip latch is clear (R142). -/
def PermitLaw (s : State) : Prop :=
  s.tsv.runPermit = true ↔ s.phase = .running ∧ s.tsv.latch = false

/-- ALARM is on while at least one kind has its status set, its mask clear and severity ALARM (R174). -/
def AlarmLaw (s : State) : Prop :=
  s.flu.alarm = true ↔
    ∃ k : Fin 13, s.flu.status.getLsbD k = true ∧ s.settings.device.masks.getLsbD k = false
      ∧ s.settings.device.alarms.getLsbD k = true

/-! ### The load table (R73, section 5.1) and the chain (R90) -/

/-- An entry's relay is closed in RESERVED and ON and open otherwise, entry 14 has none, an entry is
wanted in every state but OFF, and before start-up completes every entry is OFF. -/
def LoadLaw (s : State) : Prop :=
  (∀ e : Entry,
    s.ltc.relays.get e = ((s.entryState e).energised && decide (e ≠ sawEntry))
      ∧ ((s.load e).fields.wanted = true ↔ s.entryState e ≠ .off))
    ∧ (s.phase ≠ .running → ∀ e : Entry, s.entryState e = .off)

/-- The chain holds each entry at most once, no essential entry, and at most 15 (R90). -/
def ChainLaw (s : State) : Prop :=
  s.ltc.chain.Nodup ∧ s.ltc.chain.length ≤ 15
    ∧ ∀ e ∈ s.ltc.chain, (s.load e).fields.essential = false

/-! ### The Admission Unit and the Shed Controller (R55, R61, R67, R101) -/

/-- Reservation records, queue and displaced list hold exactly the entries in the states RESERVED,
WAITING and DISPLACED; the stack holds only entries SHED for UNDERFREQUENCY; none twice. -/
def AdmissionLaw (s : State) : Prop :=
  (∀ (e : Entry) (k : Fin 4),
    s.entryState e = .reserved k ↔ ∃ r ∈ s.adu.table, r.entry = e ∧ r.slot = k)
    ∧ (s.adu.table.map (·.slot)).Pairwise (· < ·)
    ∧ (∀ e : Entry, s.entryState e = .waiting ↔ e ∈ s.adu.queue) ∧ s.adu.queue.Nodup
    ∧ (∀ e : Entry, s.entryState e = .displaced ↔ e ∈ s.adu.displaced) ∧ s.adu.displaced.Nodup
    ∧ (∀ e ∈ s.shc.stack, s.entryState e = .shedUnderfrequency) ∧ s.shc.stack.Nodup
    ∧ (s.phase ≠ .running → s.adu.table = [] ∧ s.adu.queue = [] ∧ s.adu.displaced = []
        ∧ s.shc.stack = [])

/-! ### The regulator and the firing unit (chapters 2 and 3) -/

/-- The regulation state is the one the table of section 2.2 gives; a transfer waits only in REGULATING
(R24); D, A, the error, the saturation count and the rings are within their ranges, and Wd is
floor(D × Rtot / 1000) (R20, R32). -/
def RegulatorLaw (s : State) : Prop :=
  s.brg.state = (if s.phase = .running then regStateFor s.brg.active.enable s.brg.line else .stopped)
    ∧ (s.brg.transferEnable = true → s.brg.state = .regulating)
    ∧ s.brg.wd = s.brg.d * s.rtot / 1000
    ∧ s.brg.lastError.natAbs ≤ 5000 ∧ s.brg.satCount ≤ 50 ∧ s.brg.ring.length ≤ 16

/-- The firing state is the one the table of section 3.2 gives, and in FIRING OFF the current set and
the schedule are empty (R39, R49). -/
def FiringLaw (s : State) : Prop :=
  s.bfu.state =
      (if s.bfu.reg ≠ .stopped ∧ s.bfu.line ≠ .absent ∧ rtotOf s.bfu.banks ≠ 0 then .firing else .off)
    ∧ (s.bfu.state = .off → s.bfu.current = none ∧ s.bfu.schedule = ⟨none, none, none⟩)
    ∧ (s.phase ≠ .running → s.bfu.reg = .stopped)

/-! ### Settings (tables of sections 2.1, 4.1, 6.1, 7.1, 8.1 and 9.1; R82, R161, R162) -/

/-- A regulation group within the ranges of the table of section 2.1. -/
def RegParams.InRange (r : RegParams) : Prop :=
  45000 ≤ r.fSet ∧ r.fSet ≤ 55000 ∧ r.kp ≤ 4095 ∧ r.ki ≤ 4095 ∧ r.startDemand ≤ 1000
    ∧ r.banks.b0.rating ≤ 32000 ∧ r.banks.b1.rating ≤ 32000 ∧ r.banks.b2.rating ≤ 32000

/-- A supervision group within the ranges of the table of section 9.1, advice low not above high. -/
def SupervisionSettings.InRange (u : SupervisionSettings) : Prop :=
  52000 ≤ u.overspeedF ∧ u.overspeedF ≤ 62000 ∧ 500 ≤ u.satMargin ∧ u.satMargin ≤ 5000
    ∧ (u.shaftLimit = 0 ∨ 10 ≤ u.shaftLimit ∧ u.shaftLimit ≤ 65535) ∧ u.k100 ≤ 24000
    ∧ 5 ≤ u.slipLimit ∧ u.slipLimit ≤ 200 ∧ u.adviceLow ≤ u.adviceHigh ∧ u.adviceHigh ≤ 1000

/-- An admission group within the ranges of its three tables. -/
def AdmissionSettings.InRange (a : AdmissionSettings) : Prop :=
  a.reserve ≤ 10000 ∧ 500 ≤ a.restoreSpacing ∧ a.restoreSpacing ≤ 30000
    ∧ 500 ≤ a.settleWindow ∧ a.settleWindow ≤ 10000 ∧ 200 ≤ a.shedMargin ∧ a.shedMargin ≤ 3000
    ∧ 2 ≤ a.confirmLimit ∧ a.confirmLimit ≤ 100 ∧ 44000 ≤ a.fastShedF ∧ a.fastShedF ≤ 49000
    ∧ 5 ≤ a.recoveryHold ∧ a.recoveryHold ≤ 600 ∧ 1 ≤ a.restartHold ∧ a.restartHold ≤ 120
    ∧ 10 ≤ a.sawWaitLimit ∧ a.sawWaitLimit ≤ 600 ∧ 2000 ≤ a.starDwell ∧ a.starDwell ≤ 20000
    ∧ 40 ≤ a.deadTime ∧ a.deadTime ≤ 500

/-- A device group within its ranges. -/
def DeviceSettings.InRange (d : DeviceSettings) : Prop :=
  ∀ p : Port, d.regionLow.get p ≤ 15 ∧ d.regionHigh.get p ≤ 15
    ∧ (d.baud.get p = 57600 ∨ d.baud.get p = 115200) ∧ d.silence.get p ≤ 600

/-- Working settings within their ranges. -/
def Settings.InRange (v : Settings) : Prop :=
  v.supervision.InRange ∧ v.admission.InRange ∧ v.device.InRange ∧ 1 ≤ v.slotPeriod
    ∧ v.slotPeriod ≤ 240

/-- The settings of an image within their ranges; of group 3, the declared watts (R72). -/
def ImageData.InRange (d : ImageData) : Prop :=
  d.regulation.InRange ∧ d.settings.InRange ∧ ∀ e : Entry, (d.loads.get e).watts ≤ 30000

/-- Every setting within its range: working, shadow, stored, and in a save that runs, the declared watts of
the entries among them (group 3); and with them the fill records' watts, D and A (R87, section 2.1). -/
def SettingsLaw (s : State) : Prop :=
  s.brg.active.InRange ∧ s.brg.shadow.InRange ∧ s.settings.InRange
    ∧ (∀ e : Entry, (s.load e).fields.watts ≤ 30000) ∧ (∀ p : Port, (s.ltc.fills.get p).watts ≤ 30000)
    ∧ (∀ d, s.sst.image.contents = some d → d.InRange)
    ∧ (∀ t d, s.sst.save = .running t d → d.InRange)
    ∧ s.brg.d ≤ 1000 ∧ s.brg.a ≤ 16000

/-! ### Timers, store, ports, notices, tokens -/

/-- Timers and marks belong to the state that owns them: the recovery hold timer runs exactly in
RECOVERY HOLD, the restart hold timer only while restart is pending and the regulator REGULATING, and the
confirm count is 0 outside CONFIRMING and SHEDDING (section 6.1); in ROTA IDLE there is no pending split
and the slot timer is stopped, and a pending split is for the half without the pointer (R118, R120). -/
def TimerLaw (s : State) : Prop :=
  (s.shc.recovery.isSome = true ↔ s.shc.state = .recoveryHold)
    ∧ (s.shc.restart.isSome = true → s.shc.restartPending = true ∧ s.shc.regulating = true)
    ∧ ((s.shc.state = .normal ∨ s.shc.state = .recoveryHold) → s.shc.count = 0)
    ∧ (s.rtp.playing = false → s.rtp.split = none ∧ s.rtp.second = none)
    ∧ (∀ x, s.rtp.split = some x → (x.half = .low ↔ 32 ≤ s.rtp.pointer.val))

/-- A save and a trip-area write never run together, and a mark IN PROGRESS has its write (R146,
R170). -/
def StoreLaw (s : State) : Prop :=
  (s.sst.areaWrite.isSome = true → ∀ t d, s.sst.save ≠ .running t d)
    ∧ (s.tsv.mark = .inProgress → s.sst.areaWrite.isSome = true)

/-- What a receiver holds in each of its states (R155): nothing in HUNT, the start byte in LENGTH, and
in BODY and CHECK a start byte, a LEN of 1 to 48 and as many bytes as the state allows. -/
def Receiver.Sound (r : Receiver) : Prop :=
  match r.mode, r.bytes with
  | .hunt, bytes => bytes = []
  | .length, bytes => bytes = [0xC3]
  | .body, start :: len :: rest =>
    start = 0xC3 ∧ 1 ≤ len.toNat ∧ len.toNat ≤ 48 ∧ rest.length < len.toNat
  | .check, start :: len :: rest =>
    start = 0xC3 ∧ 1 ≤ len.toNat ∧ len.toNat ≤ 48 ∧ len.toNat ≤ rest.length
      ∧ rest.length ≤ len.toNat + 1
  | _, _ => False

/-- Every receiver is sound (R155). -/
def ReceiverLaw (s : State) : Prop :=
  ∀ p : Port, (s.port p).rx.Sound

/-- A notice queue holds at most 16 records (R163); the closing tokens are at most 50, and the accrual
timer runs exactly below 50 (R153). -/
def BoundLaw (s : State) : Prop :=
  (∀ p : Port, (s.notices p).queue.length ≤ 16)
    ∧ s.tsv.tokens ≤ 50 ∧ (s.tsv.accrual.isSome = true ↔ s.tsv.tokens < 50)

/-- What a flush makes of a port's pending slots and queue (R164): the records of the unmasked kinds go to
the queue in kind order while it holds fewer than 16, each emptying its slot; the other slots stand. -/
def Flushed (slot : NoticeKind → Option Notice) (mask : NoticeSet) (queue : List Notice)
    (after : NoticePort) : Prop :=
  let ready := NoticeKind.all.filter fun k => (slot k).isSome && !mask.getLsbD k.number
  let moved := ready.take (16 - queue.length)
  after.queue = queue ++ moved.filterMap slot
    ∧ ∀ k : NoticeKind, after.slot k = if k ∈ moved then none else slot k

/-! ### Requests and frames (R156) -/

/-- A request of the port is taken by its owner: start-up is complete and the catalogue permits it. -/
def State.serves (s : State) (n : RequestName) (p : Port) : Prop :=
  s.phase = .running ∧ n.permits p (s.setupAt p) = true

/-- The port has its response formed: the request's code, a result, the notices waiting now, and data
(R157). -/
def Replied (s t : State) (p : Port) (n : RequestName) (r : Result) (data : List Byte) : Prop :=
  (t.port p).tx =
    .ready (s.requestTime p)
      { code := n.code, result := r, waiting := (t.notices p).queue.length, data := data }

/-- Bytes received one after another at one moment on a port, with SETUP_EN at a level. -/
def feed (p : Port) (setup : Bool) : List Byte → State → State
  | [], s => s
  | b :: bs, s =>
    match exec (.rxByte p b setup) s with
    | .next t => feed p setup bs t
    | _ => s

end Sys2Proof.Machine
end

