-- ==== Sys2Proof/WellFormed.lean ====
section
/-! DEFINITION. Which commands the manual's own blocks and frames can form: operands within the ranges
the rules give what they carry. A command outside them has a meaning all the same (log 3). -/

namespace Sys2Proof

/-- The greatest demand in watts: three banks of 32,000 W (section 2.1). -/
def maxDemandWatts : Nat := 96000

/-- A regulation record within the ranges of R14, R29, R30, R32, R34 and R35, published in REGULATING
(R36). -/
def RegRecord.wf (r : RegRecord) : Bool :=
  decide (40000 ≤ r.f) && decide (r.f ≤ 62500) && decide (r.e.natAbs ≤ 5000) && decide (r.d ≤ 1000)
    && decide (r.wd ≤ maxDemandWatts) && decide (r.floor ≤ maxDemandWatts) && decide (r.a ≤ 16000)
    && decide (r.state = .regulating)

/-- A change of regulation state within the ranges of R25. -/
def RegChange.wf (c : RegChange) : Bool :=
  decide (c.d ≤ 1000) && decide (c.wd ≤ maxDemandWatts) && decide (c.floor ≤ maxDemandWatts)

/-- Ratings of at most 32,000 W (section 2.1). -/
def ratingsWf (banks : PerBank BankParams) : Bool :=
  decide (banks.b0.rating ≤ 32000) && decide (banks.b1.rating ≤ 32000)
    && decide (banks.b2.rating ≤ 32000)

/-- A demand change within the ranges of R26. -/
def DemandChange.wf (c : DemandChange) : Bool :=
  decide (c.d ≤ 1000) && decide (c.wd ≤ maxDemandWatts)
    && (match c.banks with | some banks => ratingsWf banks | none => true)

/-- A valid period of 16,000 to 25,000 µs (R12), with the sum of four of them and a frequency of 40,000
to 62,500 mHz when it comes marked LINE PRESENT (R13, R14). -/
def ValidPeriod.wf (v : ValidPeriod) : Bool :=
  decide (16000 ≤ v.period) && decide (v.period ≤ 25000)
    && (match v.present with
        | some (sum, f) =>
          decide (64000 ≤ sum) && decide (sum ≤ 100000) && decide (40000 ≤ f) && decide (f ≤ 62500)
        | none => true)

/-- A half-period of 8,000 to 12,500 µs (R15). -/
def HalfCycle.wf (c : HalfCycle) : Bool := decide (8000 ≤ c.h) && decide (c.h ≤ 12500)

/-- What a raise of a kind says of its raiser (section 11.4, R175): the state of the block that raises the
kind, within the ranges of R9 and R25. -/
def FaultRaise.wf (x : FaultRaise) : Bool :=
  match x.kind, x.own with
  | .lineLost, .line _ f => decide (f ≤ 62500)
  | .referenceFallback, .reference _ => true
  | .beltSlip, .turbine _ | .shaftStill, .turbine _ | .overspeedTrip, .turbine _ => true
  | .ballastNone, .ballast _ d wd | .ballastSaturated, .ballast _ d wd =>
    decide (d ≤ 1000) && decide (wd ≤ maxDemandWatts)
  | .shedExhausted, .shed _ => true
  | .sawContactor, .saw _ => true
  | .loadNotSeen, .other | .settingsDefaulted, .other | .saveFailed, .other | .portSilent, .other =>
    true
  | _, _ => false

/-- The command is one that the manual's blocks, frames and wires can form. -/
def Instr.wf (i : Instr) : Bool :=
  match i with
  | .regulationUpdate v => v.wf
  | .halfCycleStart c => c.wf
  | .recordAtFiring r => r.wf
  | .recordAtAdmission r => r.wf
  | .recordAtShed r => r.wf
  | .recordAtTurbine r => r.wf
  | .regStateAtFiring c => c.wf
  | .regStateAtAdmission c => c.wf
  | .regStateAtShed c => c.wf
  | .regStateAtTurbine c => c.wf
  | .demandChange c => c.wf
  | .rotaWrite _ _ _ sets => decide (1 ≤ sets.length) && decide (sets.length ≤ 8)
  | .faultRaise x => x.wf
  | .noticeDelivery _ subject value => decide (subject ≤ 15) && decide (value < 65536)
  | _ => true

end Sys2Proof
end

