-- ==== Sys2Proof/Certificates/Slice0/Obligations.lean ====
section
/-! DEFINITION. The statements for the provers: laws that every step keeps, rules of the whole machine,
requests and frames, and then family by family what each command does and what it leaves alone. An
equation whose right side is the old state with some fields replaced says both. -/

open Sys2Proof Sys2Proof.Machine

/-! ### Laws every step keeps, from every state that meets them -/

/-- Section 8.1, R127: the contactor commands are those of the stage, so K_STAR and K_DELTA are never
commanded closed together; saw timers run only in the stage that owns them. -/
def Obligations.SawLawKept : Prop := Kept SawLaw

/-- R142: RUN_PERMIT is high only while start-up is complete and the trip latch is clear. -/
def Obligations.RunPermitLawKept : Prop := Kept PermitLaw

/-- R174: ALARM is on exactly while some kind is set, unmasked and of ALARM severity. -/
def Obligations.AlarmLawKept : Prop := Kept AlarmLaw

/-- R73 and section 5.1: relays follow the states RESERVED and ON, and wanted is no exactly in OFF. That
every entry is OFF before start-up completes is R72 from the load on; until then it is the model's choice
(log 12), and while a reset is asserted too (log 48). -/
def Obligations.RelayLawKept : Prop := Kept LoadLaw

/-- R90: the chain stays free of repeats and of essential entries, and within 15. -/
def Obligations.ChainLawKept : Prop := Kept ChainLaw

/-- R55, R61, R67, R101: the reservation table, queue, displaced list and shed stack hold the entries
whose states say so. That all four are empty before start-up completes is R52 and R95 from the release on, and
the model's choice while a reset is asserted (log 48). -/
def Obligations.AdmissionLawKept : Prop := Kept AdmissionLaw

/-- Sections 6.1 and 7.1: hold timers, confirm count, pending split and slot timer belong to the state
that owns them. -/
def Obligations.TimerLawKept : Prop := Kept TimerLaw

/-- R24, R25, R32: the regulation state follows the enable and the line, a transfer waits only in
REGULATING, and Wd is the demand in watts. That the state is BALLAST STOPPED before start-up completes is R20
from the release on, and the model's choice while a reset is asserted (log 48). -/
def Obligations.RegulatorLawKept : Prop := Kept RegulatorLaw

/-- R39, R49: the firing state follows the table of section 3.2, and nothing is scheduled in FIRING
OFF. That the regulation state known to the unit is BALLAST STOPPED before start-up completes is the model's
choice (log 12; log 48 while a reset is asserted). -/
def Obligations.FiringLawKept : Prop := Kept FiringLaw

/-- Tables of chapters 2, 4 and 6 to 11, R72 and R87: every setting, working, shadow, stored or being saved,
the declared watts of group 3 among them, and the fill records' watts, D and A stay in range. -/
def Obligations.SettingsLawKept : Prop := Kept SettingsLaw

/-- R146, R170: a save and a trip-area write never run together. -/
def Obligations.StoreLawKept : Prop := Kept StoreLaw

/-- R155: a receiver holds what its state says, so LEN is 1 to 48 and a frame never outgrows it. -/
def Obligations.ReceiverLawKept : Prop := Kept ReceiverLaw

/-- R153, R163: notice queues stay within 16 records and the closing tokens within 50. -/
def Obligations.BoundLawKept : Prop := Kept BoundLaw

/-- Every law above holds right after reset (which levels and store contents the reset state has is the
model's choice: logs 5, 7 and 12). -/
def Obligations.ResetMeetsLaws : Prop :=
  SawLaw State.reset ∧ PermitLaw State.reset ∧ AlarmLaw State.reset ∧ LoadLaw State.reset
    ∧ ChainLaw State.reset ∧ AdmissionLaw State.reset ∧ TimerLaw State.reset
    ∧ RegulatorLaw State.reset ∧ FiringLaw State.reset ∧ SettingsLaw State.reset
    ∧ StoreLaw State.reset ∧ ReceiverLaw State.reset ∧ BoundLaw State.reset

/-! ### Rules of the whole machine -/

/-- A step takes the command at the front of the queue, with the queue's rest. The queue is the model's
(log 1). -/
def Obligations.StepTakesFrontCommand : Prop :=
  ∀ (c : Instr) (s : State) (rest : List Instr),
    step { s with pending := c :: rest } = exec c { s with pending := rest }

/-- R9, R123, R141, R162, R177: until start-up completes, requests, inputs and timers of the service
change nothing but the levels of the saw's inputs and of SETUP_EN (sampled with a byte by the model's
choice, log 8). The rules speak of start-up; that the same holds while a reset is asserted is the model's
inference (log 10). -/
def Obligations.StartUpIgnoresCommands : Prop :=
  ∀ (i : Instr) (s : State), s.phase ≠ .running →
    match i with
    | .fullResetAssert _ | .fullResetRelease _ _ | .settingsLoadEnd | .checkWindowEnd _
    | .noGoodWindowTimeout | .sourceSwitch | .noticeDelivery _ _ _ | .faultRaise _ => True
    | .rxByte _ _ level => exec i s = .next { s with setupEn := level }
    | .auxChange k closed => exec i s = .next { s with sws := { s.sws with aux := s.sws.aux.set k closed } }
    | .sawEstopChange asserted => exec i s = .next { s with sws := { s.sws with estop := asserted } }
    | _ => exec i s = .next s

/-- R63, R64, R142: an entry becomes RESERVED only by a grant at a regulation record: the trip latch
clear, the shed state NORMAL or CONFIRMING, the entry at the head of the queue (which holds a saw whose wait
has expired no more, log 27), the restore spacing elapsed, fewer than four records held before its own, and
headroom left. -/
def Obligations.OnlyGrantsReserve : Prop :=
  ∀ (i : Instr) (s t : State) (e : Entry) (k : Fin 4),
    exec i s = .next t → s.entryState e ≠ .reserved k → t.entryState e = .reserved k →
      (∃ r, i = .recordAtAdmission r) ∧ s.tsv.latch = false
        ∧ (s.shc.state = .normal ∨ s.shc.state = .confirming) ∧ s.examined.head? = some e
        ∧ (∀ last, s.adu.lastGrant = some last →
            s.settings.admission.restoreSpacing * 1000 ≤ s.elapsed last)
        ∧ (∃ x ∈ t.adu.table, x.entry = e ∧ x.slot = k) ∧ t.adu.table.length ≤ 4
        ∧ 0 ≤ t.headroom

/-- R142, R147: a set trip latch is cleared only by a TRIP RESET of port G whose conditions hold, or by a
full reset and its load. -/
def Obligations.OnlyResetClearsTrip : Prop :=
  ∀ (i : Instr) (s t : State), exec i s = .next t → s.tsv.latch = true → t.tsv.latch = false →
    (i = .tripReset .g ∧ s.resetAllowed = true) ∨ (∃ x, i = .fullResetAssert x)
      ∨ (∃ mv high, i = .fullResetRelease mv high) ∨ i = .settingsLoadEnd

/-- R146, R168, R171: the stored image changes only at the end of a save that agrees, into what the save
wrote with its check, and the trip area only at the end of its own write, with its own (the bytes a check is
computed over are open: log 6). -/
def Obligations.OnlySavesChangeStore : Prop :=
  ∀ (i : Instr) (s t : State), exec i s = .next t →
    (t.sst.image ≠ s.sst.image →
      i = .saveEnd true ∧ ∃ at' d, s.sst.save = .running at' d ∧ t.sst.image = .written d d.check)
      ∧ (t.sst.tripArea ≠ s.sst.tripArea →
          i = .tripAreaWriteEnd ∧ ∃ w, s.sst.areaWrite = some w
            ∧ t.sst.tripArea = .written w.latch w.record (areaCheck w.latch w.record))

/-- R127: K_DELTA goes from OPEN to CLOSED only in SAW CHANGEOVER, with AUX_STAR reporting OPEN, K_STAR
commanded open, and the dead time run out. -/
def Obligations.DeltaClosesAfterStarOpens : Prop :=
  ∀ (i : Instr) (s t : State), exec i s = .next t →
    s.sws.commands.delta = false → t.sws.commands.delta = true →
      s.sws.stage = .changeover ∧ t.sws.aux.star = false ∧ t.sws.commands.star = false
        ∧ (s.sws.dead = none
          ∨ ∃ start, s.sws.dead = some start
              ∧ t.settings.admission.deadTime * 1000 ≤ s.elapsed start)

/-- Chapter 10: a byte, a late gap, a break and a response's start on one port leave another port's
receiver, presence, link fault record, response and notices; a response's end leaves all but the other
port's line rate, which a written baud rate may change then (log 46). -/
def Obligations.PortsAreApart : Prop :=
  (∀ (p q : Port) (b : Byte) (level : Bool) (s t : State), q ≠ p →
    (exec (.rxByte p b level) s = .next t ∨ exec (.frameTimeout p) s = .next t
      ∨ exec (.lineBreak p) s = .next t ∨ exec (.responseStart p) s = .next t) →
      t.port q = s.port q ∧ t.notices q = s.notices q)
  ∧ (∀ (p q : Port) (s t : State), q ≠ p → exec (.responseEnd p) s = .next t →
      t.port q = { s.port q with lineBaud := (t.port q).lineBaud } ∧ t.notices q = s.notices q)

/-! ### Requests and frames (sections 10.1 and 10.2) -/

/-- R156: every request the port may send is answered, with its own code, the notices then waiting, and
from the time of the request's last byte (now, for a request that came otherwise: log 23). That the response
is formed, and WAITING counted, in the event in which the request is taken is the model's inference
(log 18). -/
def Obligations.EveryRequestIsAnswered : Prop :=
  ∀ (i : Instr) (n : RequestName) (p : Port) (params : List Byte) (s : State),
    i.asRequest = some (n, p, params) → s.serves n p →
      ∃ t r data, exec i s = .next t ∧ Replied s t p n r data ∧ r ≠ .unknown

/-- R156 step 3: a request the catalogue does not permit the port is answered DENIED and recorded as a
link fault with its frame's bytes (log 24), and does nothing else. -/
def Obligations.RoleIsChecked : Prop :=
  ∀ (i : Instr) (n : RequestName) (p : Port) (params : List Byte) (s : State),
    i.asRequest = some (n, p, params) → s.phase = .running → n.permits p (s.setupAt p) = false →
      exec i s = .next ((s.linkFault p .denied i.frame).answer p n.code .denied [])

/-- Section 10.2: the catalogue's code and parameters of every well-formed request read back as that
request, within the LEN of 48 a frame may have. -/
def Obligations.RequestsReadBack : Prop :=
  ∀ (i : Instr) (n : RequestName) (p : Port) (params : List Byte),
    i.wf = true → i.asRequest = some (n, p, params) →
      n.read p params = some i ∧ RequestName.ofCode n.code = some n ∧ params.length + 1 ≤ 48

/-- R155, R156, R161: the bytes of a permitted request's frame, received in HUNT with nothing in hand,
put that request in hand, make an ABSENT port PRESENT, and announce the request to its owner. SETUP_EN
comes with each byte by the model's choice (log 8), and announcing is the model's (log 2). -/
def Obligations.FrameReachesOwner : Prop :=
  ∀ (i : Instr) (n : RequestName) (p : Port) (params : List Byte) (level : Bool) (s : State),
    i.wf = true → i.asRequest = some (n, p, params) → s.phase = .running →
    n.permits p level = true → (s.port p).rx.mode = .hunt → (s.port p).rx.bytes = [] →
    (s.port p).tx = .idle →
      let t := feed p level i.frame s
      (t.port p).tx = .inHand s.timebase level ∧ (t.port p).rx.mode = .hunt
        ∧ (t.port p).present = true
        ∧ t.posted =
            s.posted
              ++ (if (s.port p).present then [] else [.noticeDelivery .portPresence p.number 1])
              ++ [i]

/-! ### Full reset and start-up (sections 11.2 and 11.5) -/

/-- R73, R123, R141, R174, R176: an assertion drives every output off, keeps the nonvolatile store, and
sets the cause; a supply at or above the threshold asserts nothing; a release begins start-up, and only
in reset, above the threshold and with RST_N high. What the two commands carry, and what a brown-out
before the first release keeps, are the model's choices (logs 9, 44, 48). -/
def Obligations.FullResetTaken : Prop :=
  (∀ (s : State) (x : ResetTrigger), (∀ mv, x = .supplyAt mv → mv < s.threshold) →
    ∃ t, exec (.fullResetAssert x) s = .next t ∧ t.phase = .held
      ∧ t.supply.cause =
          (match x with
           | .supplyApplied => ResetCause.powerOn
           | .rstLow => .pin
           | .supplyAt _ => if s.supply.released then .brownOut else s.supply.cause)
      ∧ (∀ e : Entry, t.ltc.relays.get e = false) ∧ t.sws.commands = ⟨false, false, false⟩
      ∧ t.bfu.gates = ⟨none, none, none⟩ ∧ t.tsv.runPermit = false
      ∧ t.flu = { status := 0, snapshot := none, alarm := false }
      ∧ t.sst.image = s.sst.image ∧ t.sst.tripArea = s.sst.tripArea ∧ t.pending = s.pending)
  ∧ (∀ (s : State) (mv : Nat), s.threshold ≤ mv → exec (.fullResetAssert (.supplyAt mv)) s = .next s)
  ∧ (∀ (s : State) (mv : Nat), s.phase = .held → s.threshold < mv →
    ∃ t, exec (.fullResetRelease mv true) s = .next t ∧ t.phase = .starting ∧ t.timebase = 0
      ∧ t.rfm = { state := .starting, goodWindows := 0, noGood := some 0 }
      ∧ t.lnm.state = .absent ∧ t.brg.state = .stopped ∧ t.brg.d = 0 ∧ t.tsv.tokens = 50
      ∧ t.supply.cause = s.supply.cause ∧ t.supply.released = true
      ∧ t.sst.image = s.sst.image ∧ t.sst.tripArea = s.sst.tripArea)
  ∧ (∀ (s : State) (mv : Nat) (high : Bool),
    s.phase ≠ .held ∨ mv ≤ s.threshold ∨ high = false →
      exec (.fullResetRelease mv high) s = .next s)

/-- R20, R72, R95, R111, R141, R142, R169, R177: the end of the load brings the loaded settings, the
regulator at its start demand in HOLDING or BALLAST STOPPED, RUN_PERMIT with a clear latch, the line-loss
timer, and SETTINGS DEFAULTED for an image that is not valid; D and Wd are given to the Bank Firing Unit,
changed or not (R38; log 51). The order within the end is logs 30 and 52. -/
def Obligations.SettingsLoadTaken : Prop :=
  ∀ s : State, s.phase = .starting → s.brg.state = .stopped → s.brg.line = .absent →
    ∃ t, exec .settingsLoadEnd s = .next t ∧ t.phase = .running ∧ t.clockMs = 0
      ∧ t.settings = s.sst.image.loaded.settings
      ∧ t.brg.active = s.sst.image.loaded.regulation ∧ t.brg.shadow = t.brg.active
      ∧ t.brg.d = t.brg.active.startDemand ∧ t.brg.a = 16 * t.brg.active.startDemand
      ∧ t.brg.wd = t.brg.d * rtotOf t.brg.active.banks / 1000 ∧ t.brg.firstUpdate = true
      ∧ t.brg.state = (if t.brg.active.enable then .holding else .stopped)
      ∧ t.rtp.pages = s.sst.image.loaded.pages ∧ t.shc.lineLoss = some s.timebase
      ∧ t.bfu.banks = t.brg.active.banks
      ∧ Instr.demandChange { d := t.brg.d, wd := t.brg.wd, banks := some t.brg.active.banks } ∈ t.posted
      ∧ (∀ latch record, s.sst.tripArea.contents = some (latch, record) →
          t.tsv.latch = latch ∧ t.tsv.record = record ∧ t.tsv.runPermit = !latch)
      ∧ (s.sst.image.contents = none →
          t.settings = Settings.factory ∧ t.flu.status.getLsbD 10 = true)

/-! ### Reference Monitor (chapter 1) -/

/-- R3 to R6: check windows while qualifying and in REF CRYSTAL, and the end of 100 ms without a good
window. -/
def Obligations.ReferenceIsJudged : Prop :=
  (∀ (s : State) (cycles : Nat), s.phase ≠ .held → s.rfm.state = .starting → 128 ≤ cycles →
    s.rfm.goodWindows + 1 ≠ 4096 →
      exec (.checkWindowEnd cycles) s =
        .next { s with rfm := { s.rfm with goodWindows := s.rfm.goodWindows + 1, noGood := none } })
  ∧ (∀ (s : State) (cycles : Nat), s.phase ≠ .held → s.rfm.state = .starting → 128 ≤ cycles →
    s.rfm.goodWindows + 1 = 4096 →
      exec (.checkWindowEnd cycles) s =
        .next
          { s with
            rfm := { state := .crystal, goodWindows := 0, noGood := none }
            adu := { s.adu with crystal := true }
            posted := s.posted ++ [.sourceSwitch, .noticeDelivery .referenceState 0 1] })
  ∧ (∀ (s : State) (cycles : Nat), s.phase ≠ .held → s.rfm.state = .starting → cycles < 128 →
      exec (.checkWindowEnd cycles) s =
        .next { s with rfm := { s.rfm with goodWindows := 0, noGood := some s.timebase } })
  ∧ (∀ (s : State) (cycles : Nat), s.phase ≠ .held → s.rfm.state = .crystal → cycles < 128 →
      exec (.checkWindowEnd cycles) s =
        .next
          { s with
            rfm := { s.rfm with state := .fallback }
            adu := { s.adu with crystal := false }
            posted :=
              s.posted ++ [.sourceSwitch, .noticeDelivery .referenceState 0 2,
                .faultRaise ⟨.referenceFallback, .reference .fallback⟩] })
  ∧ (∀ (s : State) (start : Time), s.phase ≠ .held → s.rfm.state = .starting →
    s.rfm.noGood = some start → 100000 ≤ s.elapsed start →
      exec .noGoodWindowTimeout s =
        .next
          { s with
            rfm := { state := .fallback, goodWindows := 0, noGood := none }
            adu := { s.adu with crystal := false }
            posted :=
              s.posted ++ [.noticeDelivery .referenceState 0 2,
                .faultRaise ⟨.referenceFallback, .reference .fallback⟩] })

/-- R7, R8: RETRY REFERENCE from port G begins qualification in REF FALLBACK, the Admission Unit's mark
going to NOT CRYSTAL, and is refused with STATE elsewhere; the other ports are denied, which is recorded with
the frame's bytes (sections 10.1 and 10.3, log 24). -/
def Obligations.RetryReferenceTaken : Prop :=
  (∀ s : State, s.phase = .running → s.rfm.state = .fallback →
    exec (.retryReference .g) s =
      .next
        ({ s with
            rfm := { state := .starting, goodWindows := 0, noGood := some s.timebase }
            adu := { s.adu with crystal := false }
            posted := s.posted ++ [Instr.noticeDelivery .referenceState 0 0] }.answer .g 0x54 .done []))
  ∧ (∀ s : State, s.phase = .running → s.rfm.state ≠ .fallback →
      exec (.retryReference .g) s = .next (s.answer .g 0x54 .state []))
  ∧ (∀ (s : State) (p : Port), s.phase = .running → p ≠ .g →
      exec (.retryReference p) s =
        .next ((s.linkFault p .denied (Instr.frame (.retryReference p))).answer p 0x54 .denied []))

/-! ### Line Monitor (chapter 1) -/

/-- R10 to R14: a rejected edge is only counted; an accepted falling edge is captured and announced; an
accepted rising edge that completes a valid period of a present line with a full ring gives the frequency
and the half-period from the sum of the last four. -/
def Obligations.LineEdgeTaken : Prop :=
  (∀ (s : State) (pol : Polarity) (x : Edge), s.phase = .running → s.lnm.lastEdge = some x →
    (x.polarity = pol ∨ s.elapsed x.time < 6000) →
      exec (.lineZcEdge pol) s =
        .next { s with lnm := { s.lnm with rejectedEdges := min 65535 (s.lnm.rejectedEdges + 1) } })
  ∧ (∀ (s : State), s.phase = .running → s.lnm.state ≠ .absent →
    (∀ x, s.lnm.lastEdge = some x → x.polarity = .rising ∧ 6000 ≤ s.elapsed x.time) →
      exec (.lineZcEdge .falling) s =
        .next
          { s with
            lnm :=
              { s.lnm with
                lastEdge := some { polarity := .falling, time := s.timebase }
                absence := some s.timebase, lastFall := some s.timebase }
            posted :=
              s.posted
                ++ [.halfCycleStart { polarity := .falling, time := s.timebase, h := s.lnm.h }] })
  ∧ (∀ (s : State) (rise : Time) (a b c d period sum f : Nat), s.phase = .running →
    s.lnm.state = .present → s.lnm.discard = false → s.lnm.lastRise = some rise →
    (∀ x, s.lnm.lastEdge = some x → x.polarity = .falling ∧ 6000 ≤ s.elapsed x.time) →
    s.lnm.ring = [a, b, c, d] → period = s.elapsed rise → 16000 ≤ period →
    period ≤ 25000 → sum = b + c + d + period → f = (4000000000 + sum / 2) / sum →
      exec (.lineZcEdge .rising) s =
        .next
          { s with
            lnm :=
              { s.lnm with
                lastEdge := some { polarity := .rising, time := s.timebase }
                absence := some s.timebase, prevRise := some rise, lastRise := some s.timebase
                ring := [b, c, d, period], pLast := some period, invalid := 0, f := f, h := sum / 8 }
            posted :=
              s.posted
                ++ [.regulationUpdate { period := period, present := some (sum, f) },
                  .halfCycleStart { polarity := .rising, time := s.timebase, h := sum / 8 }] })

/-- R17, R18: 40 ms without an accepted edge clear the measurement and make the line ABSENT, with LINE
LOST from LINE PRESENT; a source switch clears the ring and discards the next period. -/
def Obligations.LineIsLostOrSwitched : Prop :=
  (∀ (s : State) (start : Time), s.phase = .running → s.lnm.state ≠ .absent →
    s.lnm.absence = some start → 40000 ≤ s.elapsed start →
      exec .absenceTimerExpiry s =
        .next
          { s with
            lnm :=
              { s.lnm with
                state := .absent, lastEdge := none, lastRise := none, prevRise := none,
                lastFall := none, ring := [], pLast := none, invalid := 0, discard := false,
                f := 0, h := 10000, absence := none }
            posted :=
              s.posted
                ++ [.noticeDelivery .lineState 0 0, .lineStateAtRegulator .absent,
                  .lineStateAtShed .absent, .lineStateAtTurbine .absent, .lineStateAtFiring .absent]
                ++ (if s.lnm.state = .present then [.faultRaise ⟨.lineLost, .line .absent 0⟩] else []) })
  ∧ (∀ s : State, s.phase ≠ .held → s.lnm.state = .absent → exec .sourceSwitch s = .next s)
  ∧ (∀ s : State, s.phase ≠ .held → s.lnm.state = .establishing →
      exec .sourceSwitch s = .next { s with lnm := { s.lnm with ring := [], discard := true } })
  ∧ (∀ s : State, s.phase ≠ .held → s.lnm.state = .present →
      exec .sourceSwitch s =
        .next
          { s with
            lnm :=
              { s.lnm with
                state := .establishing, ring := [], discard := true
                h := s.lnm.pLast.elim 10000 (· / 2) }
            posted :=
              s.posted
                ++ [.noticeDelivery .lineState 0 1, .lineStateAtRegulator .establishing,
                  .lineStateAtShed .establishing, .lineStateAtTurbine .establishing,
                  .lineStateAtFiring .establishing] })

/-! ### Ballast Regulator (chapter 2) -/

/-- R28 to R36: an update in REGULATING with no transfer waiting: error, demand, watts, flags, average
and floor ring, and one record with them to each of the four takers; nothing but the regulator changes.
BALLAST SATURATED is raised when the count reaches 50, and at a later update with it at 50 whose status is
clear; BALLAST NONE whenever Rtot is 0; in this order by the model's choice (log 55). -/
def Obligations.UpdateIsComputed : Prop :=
  ∀ (s : State) (period sum f : Nat) (e : Int), s.phase = .running → s.brg.state = .regulating →
    s.brg.active.enable = true → s.brg.transferEnable = false →
    e = max (-5000) (min 5000 ((f : Int) - s.brg.active.fSet)) →
      ∃ t r, exec (.regulationUpdate { period := period, present := some (sum, f) }) s = .next t
        ∧ t = { s with brg := t.brg, posted := t.posted }
        ∧ t.brg.state = .regulating ∧ t.brg.lastError = e ∧ t.brg.ePrev = e
        ∧ t.brg.firstUpdate = false
        ∧ (t.brg.d : Int) =
            max 0 (min 1000
              ((s.brg.d : Int)
                + roundNearest
                    (s.brg.active.kp * (e - (if s.brg.firstUpdate then e else s.brg.ePrev))
                      + s.brg.active.ki * e) 1024))
        ∧ (t.brg.satHigh = true ↔ t.brg.d = 1000 ∧ 0 < e)
        ∧ (t.brg.exhausted = true ↔ t.brg.d = 0 ∧ e < 0)
        ∧ t.brg.satCount = (if t.brg.satHigh then min 50 (s.brg.satCount + 1) else 0)
        ∧ t.brg.a =
            ((s.brg.a : Int) + roundNearest (16 * (t.brg.d : Int) - s.brg.a) 64).toNat
        ∧ t.brg.ring =
            (s.brg.ring ++ [t.brg.wd]).drop ((s.brg.ring ++ [t.brg.wd]).length - 16)
        ∧ t.brg.active = s.brg.active ∧ t.brg.shadow = s.brg.shadow
        ∧ r =
            { f := f, e := e, d := t.brg.d, wd := t.brg.wd, floor := floorOf t.brg.ring,
              a := t.brg.a, satHigh := t.brg.satHigh, exhausted := t.brg.exhausted,
              state := .regulating, time := s.timebase }
        ∧ t.brg.record = some r
        ∧ ∃ (saturated none' : List Instr) (own : OwnState),
            own = .ballast .regulating t.brg.d t.brg.wd
            ∧ t.posted =
              s.posted ++ saturated ++ none'
                ++ [.recordAtFiring r, .recordAtAdmission r, .recordAtShed r, .recordAtTurbine r]
            ∧ saturated =
                (if t.brg.satCount = 50
                    ∧ (s.brg.satCount < 50 ∨ s.flu.status.getLsbD 6 = false) then
                  [.faultRaise ⟨.ballastSaturated, own⟩] else [])
            ∧ none' =
                (if rtotOf s.brg.active.banks = 0 then [.faultRaise ⟨.ballastNone, own⟩] else [])

/-- R32: an update turns the demand into watts, floor(D × Rtot / 1000), within 0 to Rtot, and 0 at every
D when Rtot is 0. -/
def Obligations.WattsFollowDemand : Prop :=
  ∀ (s : State) (v : ValidPeriod) (f sum : Nat), s.phase = .running → s.brg.state = .regulating →
    s.brg.active.enable = true → v.present = some (sum, f) →
    (s.brg.transferEnable = true → s.brg.shadow.enable = true) →
      ∃ t, exec (.regulationUpdate v) s = .next t
        ∧ t.brg.active = (if s.brg.transferEnable then s.brg.shadow else s.brg.active)
        ∧ t.brg.wd = t.brg.d * rtotOf t.brg.active.banks / 1000
        ∧ t.brg.wd ≤ rtotOf t.brg.active.banks
        ∧ (rtotOf t.brg.active.banks = 0 → t.brg.wd = 0)

/-- R22 to R27: APPLY REGULATION transfers at once outside REGULATING and only sets the flag in it; the
line reaching LINE PRESENT enters REGULATING, and leaving it for LINE ABSENT clears the run and returns D
to the start demand. -/
def Obligations.RegulationStatesFollow : Prop :=
  (∀ s : State, s.phase = .running → s.brg.state = .regulating →
    exec (.applyRegulation .g) s =
      .next ({ s with brg := { s.brg with transferEnable := true } }.answer .g 0x12 .done []))
  ∧ (∀ s : State, s.phase = .running → s.brg.state ≠ .regulating →
    ∃ t, exec (.applyRegulation .g) s = .next t ∧ Replied s t .g .applyRegulation .done []
      ∧ t.brg.active = s.brg.shadow ∧ t.brg.shadow = s.brg.shadow ∧ t.brg.transferEnable = false
      ∧ t.brg.d = s.brg.d
      ∧ t.brg.state = regStateFor s.brg.shadow.enable s.brg.line
      ∧ Instr.noticeDelivery .regulationApplied 0 0 ∈ t.posted)
  ∧ (∀ s : State, s.phase = .running → s.brg.state = .holding → s.brg.active.enable = true →
    ∃ c : RegChange,
      c = { state := .regulating, d := s.brg.d, wd := s.brg.wd, floor := floorOf s.brg.ring,
            satHigh := s.brg.satHigh, exhausted := s.brg.exhausted }
      ∧ exec (.lineStateAtRegulator .present) s =
          .next
            { s with
              brg := { s.brg with line := .present, state := .regulating }
              posted :=
                s.posted
                  ++ [.regStateAtFiring c, .regStateAtAdmission c, .regStateAtShed c,
                    .regStateAtTurbine c] })
  ∧ (∀ s : State, s.phase = .running → s.brg.state = .regulating → s.brg.active.enable = true →
    s.brg.transferEnable = false →
      ∃ t, exec (.lineStateAtRegulator .absent) s = .next t
        ∧ t = { s with brg := t.brg, posted := t.posted }
        ∧ t.brg =
            { s.brg with
              state := .holding, line := .absent, ring := [], satHigh := false, exhausted := false
              satCount := 0, firstUpdate := true, d := s.brg.active.startDemand
              wd := s.brg.active.startDemand * rtotOf s.brg.active.banks / 1000 })

/-! ### Bank Firing Unit (chapter 3) -/

/-- R40 to R49: records, demand changes and states reach the unit; a rising half-cycle start latches the
next allocation and schedules the fired banks; a pulse begins when it falls due and ends after 250 µs,
at least 150 µs before the next crossing. -/
def Obligations.BanksAreFired : Prop :=
  (∀ (s : State) (r : RegRecord), s.phase = .running →
    exec (.recordAtFiring r) s =
      .next { s with bfu := { s.bfu with next := some (allocate r.wd s.bfu.banks) } })
  ∧ (∀ (s : State) (d wd : Nat) (banks : PerBank BankParams), s.phase = .running →
    ∃ t, exec (.demandChange { d := d, wd := wd, banks := some banks }) s = .next t
      ∧ t = { s with bfu := t.bfu } ∧ t.bfu.banks = banks ∧ t.bfu.next = some (allocate wd banks)
      ∧ t.bfu.gates = s.bfu.gates
      ∧ (rtotOf banks = 0 → t.bfu.state = .off ∧ t.bfu.current = none))
  ∧ (∀ (s : State) (c : RegChange), s.phase = .running →
    ∃ t, exec (.regStateAtFiring c) s = .next t ∧ t = { s with bfu := t.bfu }
      ∧ t.bfu.reg = c.state ∧ t.bfu.next = some (allocate c.wd s.bfu.banks)
      ∧ t.bfu.gates = s.bfu.gates
      ∧ (c.state ≠ .stopped → s.bfu.line ≠ .absent → rtotOf s.bfu.banks ≠ 0 →
          t.bfu.state = .firing ∧ t.bfu.current = s.bfu.current))
  ∧ (∀ s : State, s.phase = .running →
    exec (.lineStateAtFiring .absent) s =
      .next
        { s with
          bfu :=
            { s.bfu with
              line := .absent, state := .off, current := none, schedule := ⟨none, none, none⟩ } })
  ∧ (∀ (s : State) (q : PerBank Nat) (now : Time) (h : Nat), s.phase = .running →
    s.bfu.state = .firing → s.bfu.next = some q →
      exec (.halfCycleStart { polarity := .rising, time := now, h := h }) s =
        .next
          { s with
            bfu :=
              { s.bfu with
                current := some { h := h, banks := q.map (bankSetOf h) }
                schedule := (q.map (bankSetOf h)).map (pulseDue now) } })
  ∧ (∀ (s : State) (b : Bank) (due : Time), s.phase = .running → s.bfu.schedule.get b = some due →
    s.elapsed due < 2 ^ 31 →
      exec (.gatePulseDue b) s =
        .next
          { s with
            bfu :=
              { s.bfu with
                gates := s.bfu.gates.set b (some due), schedule := s.bfu.schedule.set b none } })
  ∧ (∀ (s : State) (b : Bank) (due : Time), s.phase = .running → s.bfu.gates.get b = some due →
    250 ≤ s.elapsed due →
      exec (.gatePulseEnd b) s =
        .next { s with bfu := { s.bfu with gates := s.bfu.gates.set b none } })
  ∧ (∀ (h q : Nat), (bankSetOf h q).mark = .fired →
      ∃ delay, (bankSetOf h q).delay = some delay ∧ 150 ≤ delay ∧ delay + 250 + 150 ≤ h)
  ∧ (∀ (wd : Nat) (banks : PerBank BankParams), banks.b0.available = true → 0 < banks.b0.rating →
      (banks.b0.rating ≤ wd → (allocate wd banks).b0 = 1000)
        ∧ (wd < banks.b0.rating → (allocate wd banks).b1 = 0 ∧ (allocate wd banks).b2 = 0))

/-! ### Admission Unit (chapter 4) -/

/-- R56, R58, R63, R64, R66: at a regulation record that releases nothing, the head of the queue is granted
when the conditions hold: record, RESERVED, relay, queue, spacing and notice; every other entry stands. The
saw is granted with its surge, its request leaves, and it is told to begin. A saw that does not fit and may
displace takes entries of the chain that are ON and deferrable, in chain order, to DISPLACED until their watts
reach the shortfall, the chain ends or the list has fourteen. With an empty queue, or the trip latch set, every
record that has arrived is released, in slot order, and nothing else changes. -/
def Obligations.HeadIsGranted : Prop :=
  (∀ (s : State) (r : RegRecord) (e : Entry) (rest : List Entry) (slot : Fin 4),
    s.phase = .running → s.adu.queue = e :: rest → e ≠ sawEntry → s.entryState e = .waiting →
    (∀ x ∈ s.adu.table, ¬ ((x.watts + 1) / 2 : Nat) ≤ (x.wdRef : Int) - r.wd) →
    freeSlot s.adu.table = some slot → s.adu.table.length < 4 → s.spacingElapsed = true →
    (s.shc.state = .normal ∨ s.shc.state = .confirming) → s.tsv.latch = false →
    ((s.load e).fields.watts : Int) ≤ (r.floor : Int) - s.reserveEff - heldWatts s.adu.table →
      ∃ t, exec (.recordAtAdmission r) s = .next t
        ∧ t =
            { s with
              adu := t.adu, posted := t.posted
              ltc := { s.ltc with loads := t.ltc.loads, relays := t.ltc.relays } }
        ∧ t.entryState e = .reserved slot ∧ (t.load e).notSeen = false
        ∧ t.ltc.relays.get e = true
        ∧ (∀ x : Entry, x ≠ e → t.load x = s.load x ∧ t.ltc.relays.get x = s.ltc.relays.get x)
        ∧ t.adu.queue = rest ∧ t.adu.floor = r.floor ∧ t.adu.lastGrant = some r.time
        ∧ { slot := slot, entry := e, watts := (s.load e).fields.watts, wdRef := r.wd,
            time := r.time, origin := Origin.restore : Reservation } ∈ t.adu.table
        ∧ t.posted = s.posted ++ [.noticeDelivery .entryChanged e.val (2 + 16 * 4)])
  ∧ (∀ (s : State) (r : RegRecord) (q : SawRequest) (rest : List Entry) (slot : Fin 4),
    s.phase = .running → s.adu.queue = sawEntry :: rest → s.adu.saw = some q → q.refused = false →
    s.entryState sawEntry = .waiting →
    (∀ x ∈ s.adu.table, ¬ ((x.watts + 1) / 2 : Nat) ≤ (x.wdRef : Int) - r.wd) →
    freeSlot s.adu.table = some slot → s.adu.table.length < 4 → s.spacingElapsed = true →
    (s.shc.state = .normal ∨ s.shc.state = .confirming) → s.tsv.latch = false →
    (q.surge : Int) ≤ (r.floor : Int) - s.reserveEff - heldWatts s.adu.table →
      ∃ t, exec (.recordAtAdmission r) s = .next t
        ∧ t =
            { s with
              adu := t.adu, posted := t.posted
              ltc := { s.ltc with loads := t.ltc.loads, relays := t.ltc.relays } }
        ∧ t.entryState sawEntry = .reserved slot ∧ (t.load sawEntry).notSeen = false
        ∧ t.ltc.relays.get sawEntry = false
        ∧ (∀ x : Entry, x ≠ sawEntry →
            t.load x = s.load x ∧ t.ltc.relays.get x = s.ltc.relays.get x)
        ∧ t.adu.queue = rest ∧ t.adu.saw = none ∧ t.adu.floor = r.floor
        ∧ t.adu.lastGrant = some r.time
        ∧ { slot := slot, entry := sawEntry, watts := q.surge, wdRef := r.wd, time := r.time,
            origin := Origin.sawStart : Reservation } ∈ t.adu.table
        ∧ t.posted = s.posted ++ [.noticeDelivery .entryChanged 14 (2 + 16 * 4), .beginSignal])
  ∧ (∀ (s : State) (r : RegRecord) (q : SawRequest) (rest : List Entry) (slot : Fin 4)
      (able : List Entry) (short : Int),
    s.phase = .running → s.adu.queue = sawEntry :: rest → s.adu.saw = some q → q.refused = false →
    q.displace = true → q.displaced = false → s.sws.stage = .waiting →
    s.entryState sawEntry = .waiting → s.ltc.chain.Nodup →
    (∀ x ∈ s.adu.table, ¬ ((x.watts + 1) / 2 : Nat) ≤ (x.wdRef : Int) - r.wd) →
    freeSlot s.adu.table = some slot → s.adu.table.length < 4 → s.spacingElapsed = true →
    (s.shc.state = .normal ∨ s.shc.state = .confirming) → s.tsv.latch = false →
    able =
      s.ltc.chain.filter (fun e => decide (s.entryState e = .on) && (s.load e).fields.deferrable) →
    short = q.surge - ((r.floor : Int) - s.reserveEff - heldWatts s.adu.table) → 0 < short →
      ∃ t moved, exec (.recordAtAdmission r) s = .next t
        ∧ t =
            { s with
              adu := t.adu, posted := t.posted
              ltc := { s.ltc with loads := t.ltc.loads, relays := t.ltc.relays } }
        ∧ t.adu =
            { s.adu with
              floor := r.floor, displaced := s.adu.displaced ++ moved
              saw := some { q with displaced := true } }
        ∧ moved <+: able
        ∧ (∀ before last, moved = before ++ [last] →
            ((before.map (fun e => (s.load e).fields.watts)).sum : Int) < short
              ∧ s.adu.displaced.length + before.length < 14)
        ∧ (short ≤ (moved.map (fun e => (s.load e).fields.watts)).sum ∨ moved = able
            ∨ 14 ≤ s.adu.displaced.length + moved.length)
        ∧ (∀ e ∈ moved, t.entryState e = .displaced ∧ t.ltc.relays.get e = false)
        ∧ (∀ e : Entry, e ∉ moved →
            t.load e = s.load e ∧ t.ltc.relays.get e = s.ltc.relays.get e)
        ∧ t.posted =
            s.posted ++ moved.map (fun e => .noticeDelivery .entryChanged e.val (5 + 16 * 11)))
  ∧ (∀ (s : State) (r : RegRecord) (arrived : Reservation → Bool), s.phase = .running →
    AdmissionLaw s → (s.adu.queue = [] ∨ s.tsv.latch = true) →
    (∀ x, arrived x = decide (((x.watts + 1) / 2 : Nat) ≤ (x.wdRef : Int) - r.wd)) →
      ∃ t, exec (.recordAtAdmission r) s = .next t
        ∧ t =
            { s with
              adu := t.adu, posted := t.posted
              ltc := { s.ltc with loads := t.ltc.loads, relays := t.ltc.relays } }
        ∧ t.adu =
            { s.adu with
              floor := r.floor, table := s.adu.table.filter (fun x => !arrived x) }
        ∧ (∀ x ∈ s.adu.table, arrived x = true →
            t.entryState x.entry = .on
              ∧ t.ltc.relays.get x.entry = decide (x.entry ≠ sawEntry))
        ∧ (∀ e : Entry, (∀ x ∈ s.adu.table, arrived x = true → x.entry ≠ e) →
            t.load e = s.load e ∧ t.ltc.relays.get e = s.ltc.relays.get e)
        ∧ t.posted =
            s.posted
              ++ (s.adu.table.filter arrived).flatMap (fun x =>
                  [.noticeDelivery .entryChanged x.entry.val (3 + 16 * 5),
                    .noticeDelivery .reservationEnded x.entry.val 0]))

/-- R57: a change of regulation state sets the floor as given to the floor it carries, and does nothing
else to the unit. -/
def Obligations.RegulationStateSetsFloor : Prop :=
  ∀ (s : State) (c : RegChange), s.phase = .running →
    exec (.regStateAtAdmission c) s = .next { s with adu := { s.adu with floor := c.floor } }
      ∧ ∀ t, exec (.regStateAtAdmission c) s = .next t →
          t.headroom = (c.floor : Int) - s.reserveEff - heldWatts s.adu.table

/-- R59, R63, R68: a settle window that runs out puts its entry ON with load-not-seen and LOAD NOT SEEN;
the last grant time is emptied after 30 s; a saw wait that runs out in SAW WAITING brings the saw to SAW OFF
with the report to the Load Table Controller and SAW REFUSED, entry 14 WAITING until that report (R131, R136;
log 27). -/
def Obligations.AdmissionTimersExpire : Prop :=
  (∀ (s : State) (r : Reservation) (slot : Fin 4), s.phase = .running → r ∈ s.adu.table →
    r.slot = slot → (s.adu.table.filter (fun x => x.slot = slot)) = [r] →
    s.entryState r.entry = .reserved slot →
    s.settings.admission.settleWindow * 1000 ≤ s.elapsed r.time →
      ∃ t, exec (.reservationExpiry slot) s = .next t
        ∧ t.entryState r.entry = .on ∧ (t.load r.entry).notSeen = true
        ∧ (∀ x ∈ t.adu.table, x.slot ≠ slot) ∧ t.adu.queue = s.adu.queue
        ∧ (∀ x : Entry, x ≠ r.entry → t.load x = s.load x)
        ∧ t.posted =
            s.posted
              ++ [.noticeDelivery .entryChanged r.entry.val (3 + 16 * 6),
                .faultRaise ⟨.loadNotSeen, .other⟩,
                .noticeDelivery .reservationEnded r.entry.val 1])
  ∧ (∀ (s : State) (last : Time), s.phase = .running → s.adu.lastGrant = some last →
    30000000 ≤ s.elapsed last →
      exec .lastGrantTimeEmptied s = .next { s with adu := { s.adu with lastGrant := none } })
  ∧ (∀ (s : State) (q : SawRequest), s.phase = .running → s.adu.saw = some q → q.refused = false →
    s.settings.admission.sawWaitLimit * 1000000 ≤ s.elapsed q.inserted →
    s.entryState sawEntry = .waiting → s.sws.stage = .waiting → s.adu.displaced = [] →
      ∃ t, exec .sawWaitExpiry s = .next t
        ∧ t.sws = { s.sws with stage := .off, lastStop := some .waitExpired }
        ∧ t.ltc = s.ltc ∧ t.adu = { s.adu with saw := some { q with refused := true } }
        ∧ t.posted =
            s.posted
              ++ [.noticeDelivery .sawStage 14 (0 + 16 * 8), .sawStoppedReport,
                .noticeDelivery .sawRefused 14 s.settings.admission.sawWaitLimit])

/-! ### Load Table Controller (chapter 5) -/

/-- R82 to R86, R88: a permitted WRITE ENTRY that sets wanted on an entry in OFF stores the masked fields
and queues the entry, or takes it to ROTA-OFF when it is a member that the playing slot leaves out; one that
clears wanted takes it to OFF; member cleared takes ROTA-OFF to WAITING, and member set takes an entry that the
playing slot leaves out to ROTA-OFF; a changed essential requeues a WAITING entry; any other write moves
nothing. An index above 15, a port without the region, and a conflict change nothing but the answer. FILL
ENTRIES of a group is answered DONE with one result byte for each selected entry: one permitted entry is
written as by a WRITE ENTRY of the port's mask and fill record; a mask without wanted, essential and member
stores the fill in every selected entry that may be written; conflicts and denials each say so, entry by entry.
MALFORMED and DENIED as a whole answer are recorded with the frame's bytes (sections 10.1 and 10.3, log 24). -/
def Obligations.EntriesAreWritten : Prop :=
  (∀ (s : State) (p : Port) (b flags m : Byte) (watts : Half) (e : Entry) (after : Fields),
    s.phase = .running → entryOf b = some e → s.mayWrite p e = true → e ≠ sawEntry →
    after = mergeFields (maskOf m) (s.load e).fields (fieldsOf flags watts.toNat) →
    s.writeConflicts e (maskOf m) after = false → s.entryState e = .off →
    (s.load e).fields.wanted = false → after.wanted = true →
    after.essential = (s.load e).fields.essential →
    (after.member && s.rotaExcludes e) = false →
      ∃ t data, exec (.writeEntry p b flags watts (some m)) s = .next t
        ∧ Replied s t p .writeEntry
            (if m.getLsbD 5 && decide (30000 < watts.toNat) then .clamped else .done) data
        ∧ t.entryState e = .waiting ∧ (t.load e).fields = after
        ∧ t.ltc.relays.get e = false
        ∧ (∀ x : Entry, x ≠ e → t.load x = s.load x)
        ∧ (after.essential = false → t.adu.queue = s.adu.queue ++ [e])
        ∧ t.posted = s.posted ++ [.noticeDelivery .entryChanged e.val 1])
  ∧ (∀ (s : State) (p : Port) (b flags m : Byte) (watts : Half) (e : Entry) (old after : Fields)
      (res : Result),
    s.phase = .running → entryOf b = some e → s.mayWrite p e = true → old = (s.load e).fields →
    after = mergeFields (maskOf m) old (fieldsOf flags watts.toNat) →
    s.writeConflicts e (maskOf m) after = false →
    res = (if m.getLsbD 5 && decide (30000 < watts.toNat) then .clamped else .done) →
      (old.wanted = true → after.wanted = false → s.entryState e ≠ .off →
        ∃ t, exec (.writeEntry p b flags watts (some m)) s = .next t
          ∧ Replied s t p .writeEntry res [] ∧ t.entryState e = .off ∧ (t.load e).fields = after
          ∧ t.ltc.relays.get e = false ∧ (∀ x : Entry, x ≠ e → t.load x = s.load x)
          ∧ ((s.entryState e).isReserved = true → ∀ x ∈ t.adu.table, x.entry ≠ e)
          ∧ t.adu.queue =
              (if s.entryState e = .waiting then s.adu.queue.erase e else s.adu.queue)
          ∧ t.posted = s.posted ++ [.noticeDelivery .entryChanged e.val (0 + 16 * 3)])
      ∧ (old.wanted = true → after.wanted = true → old.member = true → after.member = false →
        after.essential = old.essential → s.entryState e = .rotaOff →
        ∃ t, exec (.writeEntry p b flags watts (some m)) s = .next t
          ∧ Replied s t p .writeEntry res [] ∧ t.entryState e = .waiting
          ∧ (t.load e).fields = after ∧ (∀ x : Entry, x ≠ e → t.load x = s.load x)
          ∧ (after.essential = false → t.adu.queue = s.adu.queue ++ [e])
          ∧ t.posted = s.posted ++ [.noticeDelivery .entryChanged e.val (1 + 16 * 16)])
      ∧ (old.wanted = true → after.wanted = true → old.member = false → after.member = true →
        s.rotaExcludes e = true → s.entryState e ≠ .off → s.entryState e ≠ .rotaOff →
        ∃ t, exec (.writeEntry p b flags watts (some m)) s = .next t
          ∧ Replied s t p .writeEntry res [] ∧ t.entryState e = .rotaOff
          ∧ (t.load e).fields = after ∧ t.ltc.relays.get e = false
          ∧ (∀ x : Entry, x ≠ e → t.load x = s.load x)
          ∧ t.posted = s.posted ++ [.noticeDelivery .entryChanged e.val (6 + 16 * 13)])
      ∧ (after.wanted = old.wanted → after.member = old.member →
        after.essential = !old.essential → s.entryState e = .waiting →
        ∃ t, exec (.writeEntry p b flags watts (some m)) s = .next t
          ∧ Replied s t p .writeEntry res []
          ∧ t.load e = { s.load e with fields := after }
          ∧ (∀ x : Entry, x ≠ e → t.load x = s.load x)
          ∧ t.adu = { s.adu with queue := t.adu.queue }
          ∧ (after.essential = false → t.adu.queue = s.adu.queue.erase e ++ [e])
          ∧ (∀ first rest, s.adu.queue.erase e = first ++ rest → e ∉ first → e ∉ rest →
              (∀ x ∈ first, (s.load x).fields.essential = true) →
              (∀ x ∈ rest, (s.load x).fields.essential = false) →
              after.essential = true → t.adu.queue = first ++ e :: rest)
          ∧ t.posted = s.posted)
      ∧ (old.wanted = false → after.wanted = true → after.member = true → s.rotaExcludes e = true →
        s.entryState e = .off →
        ∃ t, exec (.writeEntry p b flags watts (some m)) s = .next t
          ∧ Replied s t p .writeEntry res [] ∧ t.entryState e = .rotaOff
          ∧ (t.load e).fields = after ∧ t.ltc.relays.get e = false ∧ t.adu = s.adu
          ∧ (∀ x : Entry, x ≠ e → t.load x = s.load x)
          ∧ t.posted = s.posted ++ [.noticeDelivery .entryChanged e.val 6])
      ∧ (after.wanted = old.wanted →
        (after.essential = old.essential ∨ s.entryState e ≠ .waiting) →
        (after.member = old.member ∨ after.member = false ∧ s.entryState e ≠ .rotaOff
          ∨ after.member = true
            ∧ (s.rotaExcludes e = false ∨ s.entryState e = .off ∨ s.entryState e = .rotaOff)) →
        exec (.writeEntry p b flags watts (some m)) s =
          .next
            ((s.setLoad e { s.load e with fields := after }).answer p 0x21 res [])))
  ∧ (∀ (s : State) (p : Port) (b flags : Byte) (watts : Half) (m : Option Byte),
    s.phase = .running → 16 ≤ b.toNat →
      exec (.writeEntry p b flags watts m) s =
        .next
          ((s.linkFault p .malformed (Instr.frame (.writeEntry p b flags watts m))).answer p 0x21
            .malformed []))
  ∧ (∀ (s : State) (p : Port) (b flags : Byte) (watts : Half) (m : Option Byte) (e : Entry),
    s.phase = .running → entryOf b = some e → s.mayWrite p e = false →
      exec (.writeEntry p b flags watts m) s =
        .next
          ((s.linkFault p .denied (Instr.frame (.writeEntry p b flags watts m))).answer p 0x21
            .denied []))
  ∧ (∀ (s : State) (p : Port) (b flags m : Byte) (watts : Half) (e : Entry),
    s.phase = .running → entryOf b = some e → s.mayWrite p e = true →
    s.writeConflicts e (maskOf m)
      (mergeFields (maskOf m) (s.load e).fields (fieldsOf flags watts.toNat)) = true →
      exec (.writeEntry p b flags watts (some m)) s = .next (s.answer p 0x21 .conflict []))
  ∧ (∀ (s : State) (p : Port) (b sel : Byte), s.phase = .running →
    (b = 0 ∨ b = 4 ∨ b = 8 ∨ b = 12) → (∀ e : Entry, s.mayWrite p e = false) →
      exec (.fillEntries p b sel) s =
        .next
          (s.answer p 0x24 .done
            (List.replicate
              ((sel.getLsbD 0).toNat + (sel.getLsbD 1).toNat + (sel.getLsbD 2).toNat
                + (sel.getLsbD 3).toNat) 0x02)))
  ∧ (∀ (s : State) (p : Port) (b sel : Byte), s.phase = .running →
    (b = 0 ∨ b = 4 ∨ b = 8 ∨ b = 12) →
      ∃ t data, exec (.fillEntries p b sel) s = .next t ∧ Replied s t p .fillEntries .done data
        ∧ data.length =
            (sel.getLsbD 0).toNat + (sel.getLsbD 1).toNat + (sel.getLsbD 2).toNat
              + (sel.getLsbD 3).toNat)
  ∧ (∀ (s : State) (p : Port) (b sel : Byte) (k : Fin 4) (e : Entry) (x : State × Result),
    s.phase = .running → (b = 0 ∨ b = 4 ∨ b = 8 ∨ b = 12) →
    (∀ j : Fin 4, sel.getLsbD j.val = decide (j = k)) → e.val = b.toNat + k.val →
    s.mayWrite p e = true → x = s.writeFields e (s.ltc.masks.get p) (s.ltc.fills.get p) →
      exec (.fillEntries p b sel) s = .next (x.1.answer p 0x24 .done [x.2.byte]))
  ∧ (∀ (s : State) (p : Port) (b sel : Byte) (m : FieldMask) (f : Fields), s.phase = .running →
    (b = 0 ∨ b = 4 ∨ b = 8 ∨ b = 12) → m = s.ltc.masks.get p → f = s.ltc.fills.get p →
    m.getLsbD 0 = false → m.getLsbD 2 = false → m.getLsbD 4 = false → f.watts ≤ 30000 →
    (∀ k : Fin 4, ∀ e : Entry, sel.getLsbD k.val = true → e.val = b.toNat + k.val →
      s.mayWrite p e = true ∧ s.writeConflicts e m (mergeFields m (s.load e).fields f) = false) →
      ∃ t, exec (.fillEntries p b sel) s = .next t
        ∧ Replied s t p .fillEntries .done
            (List.replicate
              ((sel.getLsbD 0).toNat + (sel.getLsbD 1).toNat + (sel.getLsbD 2).toNat
                + (sel.getLsbD 3).toNat) 0x00)
        ∧ (∀ e : Entry,
            t.load e =
              (if b.toNat ≤ e.val ∧ e.val < b.toNat + 4 ∧ sel.getLsbD (e.val - b.toNat) = true then
                { s.load e with fields := mergeFields m (s.load e).fields f }
               else s.load e))
        ∧ t.ltc.relays = s.ltc.relays ∧ t.ltc.chain = s.ltc.chain ∧ t.adu = s.adu
        ∧ t.shc = s.shc ∧ t.posted = s.posted)
  ∧ (∀ (s : State) (p : Port) (b sel : Byte), s.phase = .running →
    (b = 0 ∨ b = 4 ∨ b = 8 ∨ b = 12) →
    (∀ k : Fin 4, ∀ e : Entry, sel.getLsbD k.val = true → e.val = b.toNat + k.val →
      s.mayWrite p e = true
        ∧ s.writeConflicts e (s.ltc.masks.get p)
            (mergeFields (s.ltc.masks.get p) (s.load e).fields (s.ltc.fills.get p)) = true) →
      exec (.fillEntries p b sel) s =
        .next
          (s.answer p 0x24 .done
            (List.replicate
              ((sel.getLsbD 0).toNat + (sel.getLsbD 1).toNat + (sel.getLsbD 2).toNat
                + (sel.getLsbD 3).toNat) 0x11)))
  ∧ (∀ (s : State) (p : Port) (b sel : Byte), s.phase = .running →
    b ≠ 0 → b ≠ 4 → b ≠ 8 → b ≠ 12 →
      exec (.fillEntries p b sel) s =
        .next
          ((s.linkFault p .malformed (Instr.frame (.fillEntries p b sel))).answer p 0x24 .malformed
            []))

/-- R87, R91, R92: SET FIELD MASK and SET FILL replace the port's own; CHAIN PLACE at the head or after
an anchor and CHAIN REMOVE change the chain alone, and are refused with CONFLICT and NOT IN CHAIN. -/
def Obligations.MasksAndChainAreSet : Prop :=
  (∀ (s : State) (p : Port) (m : Byte), s.phase = .running →
    exec (.setFieldMask p m) s =
      .next
        ({ s with ltc := { s.ltc with masks := s.ltc.masks.set p (m.setWidth 6) } }.answer p 0x22 .done
          []))
  ∧ (∀ (s : State) (p : Port) (flags : Byte) (watts : Half), s.phase = .running →
    ∃ t, exec (.setFill p flags watts) s = .next t
      ∧ t =
          { s with ltc := { s.ltc with fills := t.ltc.fills } }.answer p 0x23
            (if 30000 < watts.toNat then .clamped else .done) []
      ∧ (∀ q : Port, q ≠ p → t.ltc.fills.get q = s.ltc.fills.get q)
      ∧ t.ltc.fills.get p =
          { wanted := flags.getLsbD 0, startWanted := flags.getLsbD 1, essential := flags.getLsbD 2,
            deferrable := flags.getLsbD 3, member := flags.getLsbD 4
            watts := min 30000 watts.toNat })
  ∧ (∀ (s : State) (p : Port) (b : Byte) (e : Entry), s.phase = .running → p ≠ .s →
    entryOf b = some e → (s.load e).fields.essential = false →
    (e ∈ s.ltc.chain ∨ s.ltc.chain.length < 15) →
      exec (.chainPlace p b 0xFF) s =
        .next
          ({ s with ltc := { s.ltc with chain := e :: s.ltc.chain.erase e } }.answer p 0x25 .done []))
  ∧ (∀ (s : State) (p : Port) (b c : Byte) (e a : Entry) (before after : List Entry),
    s.phase = .running → p ≠ .s → entryOf b = some e → entryOf c = some a →
    (s.load e).fields.essential = false → a ≠ e → e ∉ s.ltc.chain → s.ltc.chain.length < 15 →
    s.ltc.chain = before ++ a :: after → a ∉ before →
      exec (.chainPlace p b c) s =
        .next
          ({ s with ltc := { s.ltc with chain := before ++ a :: e :: after } }.answer p 0x25 .done []))
  ∧ (∀ (s : State) (p : Port) (b c : Byte) (e : Entry), s.phase = .running → p ≠ .s →
    entryOf b = some e → (c = 0xFF ∨ c.toNat < 16) → (s.load e).fields.essential = true →
      exec (.chainPlace p b c) s = .next (s.answer p 0x25 .conflict []))
  ∧ (∀ (s : State) (p : Port) (b : Byte) (e : Entry), s.phase = .running → p ≠ .s →
    entryOf b = some e → e ∈ s.ltc.chain →
      exec (.chainRemove p b) s =
        .next ({ s with ltc := { s.ltc with chain := s.ltc.chain.erase e } }.answer p 0x26 .done []))
  ∧ (∀ (s : State) (p : Port) (b : Byte) (e : Entry), s.phase = .running → p ≠ .s →
    entryOf b = some e → e ∉ s.ltc.chain →
      exec (.chainRemove p b) s = .next (s.answer p 0x26 .notInChain []))

/-- R89: READ ENTRY answers all the fields of the entry and the port's own mask and fill record, as they
stand, in the layout of section 10.2, and changes nothing; an index above 15 is MALFORMED, recorded with the
frame's bytes (sections 10.1 and 10.3, log 24). -/
def Obligations.EntryIsReported : Prop :=
  (∀ (s : State) (p : Port) (b : Byte) (e : Entry), s.phase = .running → entryOf b = some e →
    exec (.readEntry p b) s =
      .next
        (s.answer p 0x20 .done
          (flagsByte (s.load e).fields ++ n2 (s.load e).fields.watts
            ++ n1 (s.load e).state.number
            ++ n1 (match (s.load e).state with
                   | .shedUnderfrequency => 1 | .shedLineLoss => 2 | _ => 0)
            ++ n1 (s.load e).notSeen.toNat
            ++ n1 (match chainLink s.ltc.chain e with
                   | none => 0xFE | some none => 0xFF | some (some x) => x.val)
            ++ n1 (match (s.load e).state with | .reserved k => k.val | _ => 0xFF)
            ++ n1 (s.ltc.masks.get p).toNat ++ flagsByte (s.ltc.fills.get p)
            ++ n2 (s.ltc.fills.get p).watts)))
  ∧ (∀ (s : State) (p : Port) (b : Byte), s.phase = .running → 16 ≤ b.toNat →
      exec (.readEntry p b) s =
        .next
          ((s.linkFault p .malformed (Instr.frame (.readEntry p b))).answer p 0x20 .malformed []))

/-- R21, R93, R122, R154, R158, R159, R168, R173: the other reading requests are answered DONE with what
stands, and change nothing but the model's counter of draws (log 13). READ STATUS, READ TURBINE and READ ROTA
have the bytes of the layouts of R158 and section 10.2; in them the fields of an absent item are open (log 15),
as is the delay of a NOT FIRED bank (log 14), and times left are in ms by `inMs` (rounding open: log 16), by the
settings as they stand (log 34); the SETUP_EN of section 0 is the level that came with the last byte (log 8). A
section above 9 and a rota selection out of range are MALFORMED, recorded with the frame's bytes (sections 10.1
and 10.3, log 24). -/
def Obligations.ReadsReportOnly : Prop :=
  (∀ (s : State) (p : Port), s.phase = .running →
    exec (.readChain p) s =
      .next
        (s.answer p 0x27 .done
          (n1 s.ltc.chain.length ++ s.ltc.chain.flatMap (fun e => n1 e.val)
            ++ (n1 s.shc.stack.length ++ s.shc.stack.flatMap (fun e => n1 e.val))
            ++ (n1 s.adu.displaced.length ++ s.adu.displaced.flatMap (fun e => n1 e.val)))))
  ∧ (∀ (s : State) (p : Port), s.phase = .running →
    exec (.readFaults p) s =
      .next
        (s.answer p 0x04 .done
          (n2 s.flu.status.toNat ++ n2 s.settings.device.masks.toNat
            ++ n2 s.settings.device.alarms.toNat ++ n1 s.flu.alarm.toNat
            ++ n1 s.flu.snapshot.isSome.toNat ++ snapshotBytes s.flu.snapshot)))
  ∧ (∀ (s : State) (p q : Port) (b : Byte), s.phase = .running → Port.ofNumber b.toNat = some q →
    exec (.readLinkFault p b) s =
      .next
        (s.answer p 0x06 .done
          (n1 (s.port q).faults.status.toNat ++ firstErrorBytes (s.port q).faults.first)))
  ∧ (∀ (s : State) (p : Port) (g i x : Byte) (active shadow : Nat), s.phase = .running →
    s.settingAt g.toNat i.toNat x.toNat = some (active, shadow) →
      exec (.readSetting p g i x) s = .next (s.answer p 0x10 .done (n4 active ++ n4 shadow)))
  ∧ (∀ (s : State) (p : Port) (b : Byte) (data : List Byte), s.phase = .running →
    s.section b.toNat = some data →
      exec (.readStatus p b) s = .next ({ s with draws := s.draws + 1 }.answer p 0x01 .done data))
  ∧ (∀ (s : State) (p : Port) (b : Byte), s.phase = .running → 9 < b.toNat →
    exec (.readStatus p b) s =
      .next ((s.linkFault p .malformed (Instr.frame (.readStatus p b))).answer p 0x01 .malformed []))
  ∧ (∀ (s : State) (b : Byte), b.toNat ≤ 9 → ∃ data, s.section b.toNat = some data)
  ∧ (∀ (s : State) (p : Port) (b : Byte) (data : List Byte), s.phase = .running →
    (b = 0 ∧ data =
        Wide.bytes s.timebase
          ++ n1 (match s.rfm.state with | .starting => 0 | .crystal => 1 | .fallback => 2)
          ++ n1 (match s.supply.cause with | .powerOn => 0 | .brownOut => 1 | .pin => 2)
          ++ n1 s.ports.g.present.toNat ++ n1 s.ports.s.present.toNat
          ++ n1 s.ports.h.present.toNat ++ n1 s.setupEn.toNat ++ n1 s.flu.alarm.toNat
      ∨ b = 1 ∧ data =
        n1 (match s.lnm.state with | .absent => 0 | .establishing => 1 | .present => 2)
          ++ n4 s.lnm.f ++ n2 s.lnm.h ++ n1 s.lnm.ring.length
          ++ (s.lnm.ring ++ List.replicate (4 - s.lnm.ring.length) 0).flatMap n2
          ++ Wide.bytes (s.lnm.lastRise.getD 0xFFFFFFFF)
          ++ Wide.bytes (s.lnm.lastFall.getD 0xFFFFFFFF)
          ++ n2 s.lnm.rejectedEdges ++ n2 s.lnm.rejectedPeriods
      ∨ b = 2 ∧ data =
        n1 (match s.brg.state with | .stopped => 0 | .holding => 1 | .regulating => 2)
          ++ n2 s.brg.d ++ n4 s.brg.wd ++ i2 s.brg.lastError ++ n4 (floorOf s.brg.ring)
          ++ n1 s.brg.ring.length ++ n2 s.brg.a
          ++ n1 (s.brg.satHigh.toNat + 2 * s.brg.exhausted.toNat) ++ n1 s.brg.satCount
          ++ n1 s.brg.transferEnable.toNat ++ n4 (rtotOf s.brg.active.banks)
      ∨ b = 5 ∧ data =
        n1 s.adu.table.length
          ++ s.adu.table.flatMap (fun r =>
              n1 r.slot.val ++ n1 r.entry.val ++ n2 r.watts ++ n4 r.wdRef ++ Wide.bytes r.time
                ++ n1 (match r.origin with | .restore => 0 | .sawStart => 1)
                ++ n2 (inMs (s.settings.admission.settleWindow * 1000 - s.elapsed r.time)))
      ∨ b = 6 ∧ data =
        n1 s.adu.queue.length
          ++ s.adu.queue.flatMap (fun e => n1 e.val ++ n2 (s.grantWatts e))
      ∨ b = 7 ∧ data =
        n1 (match s.shc.state with
            | .normal => 0 | .confirming => 1 | .shedding => 2 | .recoveryHold => 3)
          ++ n1 s.shc.count ++ n1 s.shc.stack.length
          ++ n4 (inMs (s.left s.shc.recovery (s.settings.admission.recoveryHold * 1000000)))
          ++ n1 s.shc.restartPending.toNat
          ++ n4 (inMs (s.left s.shc.restart (s.settings.admission.restartHold * 1000000)))
          ++ n2 (inMs (s.left s.shc.lineLoss 2000000))
      ∨ b = 9 ∧ data =
        [(0 : Entry), 1, 2, 3, 4, 5, 6, 7, 8, 9, 10, 11, 12, 13, 14, 15].flatMap (fun e =>
          n1 (match s.entryState e with
              | .off => 0 | .waiting => 1 | .reserved _ => 2 | .on => 3 | .shedUnderfrequency => 4
              | .shedLineLoss => 4 | .displaced => 5 | .rotaOff => 6))) →
      exec (.readStatus p b) s = .next ({ s with draws := s.draws + 1 }.answer p 0x01 .done data))
  ∧ (∀ (s : State) (p : Port), s.phase = .running →
    ∃ next current : List Byte, next.length = 6 ∧ current.length = 17
      ∧ (∀ q, s.bfu.next = some q → next = n2 q.b0 ++ n2 q.b1 ++ n2 q.b2)
      ∧ (∀ c, s.bfu.current = some c →
          ∃ shown : BankSet → Nat,
            (∀ (x : BankSet) (delay : Nat), x.delay = some delay → shown x = delay)
            ∧ current =
                n2 c.h
                  ++ [c.banks.b0, c.banks.b1, c.banks.b2].flatMap (fun x =>
                      n2 x.q ++ n2 (shown x)
                        ++ n1 (match x.mark with | .fired => 0 | .heldOff => 1 | .notFired => 2)))
      ∧ exec (.readStatus p 3) s =
          .next
            ({ s with draws := s.draws + 1 }.answer p 0x01 .done
              (n1 (match s.bfu.state with | .off => 0 | .firing => 1) ++ n1 s.bfu.next.isSome.toNat
                ++ next ++ n1 s.bfu.current.isSome.toNat ++ current)))
  ∧ (∀ (s : State) (p : Port), s.phase = .running →
    ∃ saw : List Byte, saw.length = 4
      ∧ (∀ q, s.adu.saw = some q → saw = n2 q.surge ++ n1 q.displace.toNat ++ n1 q.displaced.toNat)
      ∧ exec (.readStatus p 4) s =
          .next
            ({ s with draws := s.draws + 1 }.answer p 0x01 .done
              (i4 ((s.adu.floor : Int) - s.reserveEff - heldWatts s.adu.table) ++ n4 s.adu.floor
                ++ n2 s.reserveEff ++ n1 s.adu.crystal.toNat ++ n4 (heldWatts s.adu.table)
                ++ n2 (inMs
                    (s.left s.adu.lastGrant (s.settings.admission.restoreSpacing * 1000)))
                ++ n1 s.adu.saw.isSome.toNat ++ saw
                ++ n4 (inMs (s.left s.sawWait (s.settings.admission.sawWaitLimit * 1000000))))))
  ∧ (∀ (s : State) (p : Port), s.phase = .running →
    ∃ record : List Byte, record.length = 7
      ∧ (∀ r, s.sws.record = some r →
          record =
            n1 (match r.contactor with | .main => 0 | .star => 1 | .delta => 2)
              ++ n1 (match r.kind with | .noConfirm => 0 | .uncommanded => 1 | .notOpen => 2)
              ++ n1 r.stage.number ++ Wide.bytes r.time)
      ∧ exec (.readStatus p 8) s =
          .next
            ({ s with draws := s.draws + 1 }.answer p 0x01 .done
              (n1 (match s.sws.stage with
                   | .off => 0 | .waiting => 1 | .star => 2 | .changeover => 3 | .delta => 4
                   | .stopping => 5 | .fault => 6)
                ++ contactorBits s.sws.commands ++ contactorBits s.sws.aux
                ++ n1 s.sws.estop.toNat ++ n1 s.sws.latch.toNat ++ n1 s.sws.record.isSome.toNat
                ++ record ++ n1 ((s.sws.lastStop.map SawCause.number).getD 0xFF)
                ++ n2 (inMs (s.left s.sws.dwell (s.settings.admission.starDwell * 1000)))
                ++ n2 (inMs (s.left s.sws.dead (s.settings.admission.deadTime * 1000)))
                ++ n2 (inMs (s.left s.sws.stopping 500000))
                ++ n1 (s.sws.checks.main.isSome.toNat + 2 * s.sws.checks.star.isSome.toNat
                    + 4 * s.sws.checks.delta.isSome.toNat))))
  ∧ (∀ (s : State) (p : Port), s.phase = .running →
    ∃ record : List Byte, record.length = 9
      ∧ (∀ r, s.tsv.record = some r →
          record =
            n1 (match r.cause with
                | .lineOverspeed => 1 | .saturatedOverspeed => 2 | .shaftOverspeed => 3
                | .requested => 4)
              ++ Wide.bytes r.time ++ n4 r.f)
      ∧ exec (.readTurbine p) s =
          .next
            ({ s with draws := s.draws + 1 }.answer p 0x55 .done
              (n1 s.tsv.latch.toNat ++ n1 s.tsv.runPermit.toNat ++ n1 s.tsv.record.isSome.toNat
                ++ record
                ++ n2 (match s.tsv.reference with
                       | .since start => inMs (30000000 - s.elapsed start) | _ => 0)
                ++ n1 (match s.tsv.mark with | .clear => 0 | .pending => 1 | .inProgress => 2)
                ++ n1 s.tsv.lineCount ++ n1 s.tsv.satCount ++ n1 s.tsv.shaftCount
                ++ Wide.bytes (s.tsv.lastPulse.getD 0xFFFFFFFF)
                ++ Wide.bytes (s.tsv.prevPulse.getD 0xFFFFFFFF)
                ++ n4 (match s.tsv.lastPulse, s.tsv.prevPulse with
                       | some x, some y =>
                         if s.settings.supervision.shaftLimit = 0 then 0 else (x - y).toNat
                       | _, _ => 0)
                ++ n1 s.tsv.windowOpen.toNat ++ n1 s.tsv.windowRecords ++ n2 s.tsv.windowPulses
                ++ n1 s.tsv.strikes ++ n2 (inMs (s.left s.tsv.standstill 2000000))
                ++ n1 (match s.tsv.direction with
                       | .hold => 0 | .closeGate => 1 | .openGate => 2 | .tripped => 3)
                ++ i2 s.tsv.excess ++ n1 s.tsv.adviceCount ++ n1 s.tsv.tokens
                ++ n1 (inMs (s.left s.tsv.accrual 200000)))))
  ∧ (∀ (s : State) (p : Port) (selection : Option (Byte × Byte × Byte)) (sets : List AllowedSet),
    s.phase = .running →
    (selection = none ∧ sets = []
      ∨ ∃ (source first count : Byte) (page : Vector AllowedSet 64),
          selection = some (source, first, count) ∧ first.toNat < 64 ∧ count.toNat ≤ 8
          ∧ first.toNat + count.toNat ≤ 64
          ∧ (source = 4 ∧ page = s.rtp.buffer ∨ ∃ k, pageOf source = some k ∧ page = s.rtp.pages.get k)
          ∧ sets.length = count.toNat
          ∧ ∀ (k : Nat) (x : Fin 64), k < count.toNat → x.val = first.toNat + k →
              sets[k]? = some (page.get x)) →
      ∃ split : List Byte, split.length = 4
        ∧ (s.rtp.split = none → split.head? = some 0)
        ∧ (∀ x, s.rtp.split = some x →
            split =
              n1 1 ++ n1 (match x.half with | .low => 0 | .high => 1) ++ n1 x.tap.val ++ n1 x.page.val)
        ∧ exec (.readRota p selection) s =
            .next
              ({ s with draws := s.draws + 1 }.answer p 0x44 .done
                (n1 s.rtp.playing.toNat ++ n1 s.rtp.pointer.val ++ split ++ n1 s.settings.slotPeriod
                  ++ n2 (if s.rtp.playing then s.settings.slotPeriod * 60 - s.rtp.seconds else 0)
                  ++ sets.flatMap (fun a : AllowedSet => n2 a.toNat))))
  ∧ (∀ (s : State) (p : Port) (source first count : Byte), s.phase = .running →
    (4 < source.toNat ∨ 63 < first.toNat ∨ 8 < count.toNat ∨ 64 < first.toNat + count.toNat) →
      exec (.readRota p (some (source, first, count))) s =
        .next
          ((s.linkFault p .malformed (Instr.frame (.readRota p (some (source, first, count))))).answer p
            0x44 .malformed []))

/-- R77, R79, R80, R116, R136: line loss takes every entry that it concerns, a slot application puts
excluded members in ROTA-OFF and included ones in WAITING, and the saw-stopped report brings entry 14 to
OFF; no other entry moves. -/
def Obligations.LoadTableIsMoved : Prop :=
  (∀ s : State, s.phase = .running →
    ∃ t, exec .lineLossRequest s = .next t
      ∧ ∀ e : Entry,
          t.entryState e =
            (match s.entryState e with
             | .off => .off
             | .rotaOff => .rotaOff
             | .shedLineLoss => .shedLineLoss
             | _ => if e = sawEntry then .off else .shedLineLoss))
  ∧ (∀ (s : State) (allowed : AllowedSet), s.phase = .running → s.rtp.playing = true →
    ∃ t, exec (.slotApplication allowed) s = .next t
      ∧ ∀ e : Entry,
          t.entryState e =
            (if 14 ≤ e.val then s.entryState e
             else if allowed.getLsbD e.val then
               (if s.entryState e = .rotaOff then .waiting else s.entryState e)
             else if (s.load e).fields.member = true ∧ s.entryState e ≠ .off then .rotaOff
             else s.entryState e))
  ∧ (∀ s : State, s.phase = .running → s.entryState sawEntry ≠ .off →
    ∃ t, exec .sawStoppedReport s = .next t ∧ t.entryState sawEntry = .off
      ∧ (t.load sawEntry).fields.wanted = false ∧ (∀ e : Entry, e ≠ sawEntry → t.load e = s.load e)
      ∧ t.sws = s.sws
      ∧ t.posted = s.posted ++ [.noticeDelivery .entryChanged 14 (0 + 16 * 17)])
  ∧ (∀ s : State, s.phase = .running → s.entryState sawEntry = .off →
      exec .sawStoppedReport s = .next s)

/-! ### Shed Controller (chapter 6) -/

/-- R96 to R101: at a regulation record, FAST sheds the first chain entry that is RESERVED or ON and
enters SHEDDING, and so does SHORT when the count reaches the confirm limit; entry 14 goes to OFF with a stop
of the saw and is not stacked; with none to shed SHED EXHAUSTED is raised. SHORT begins and counts confirming,
and ends RECOVERY HOLD; neither ends confirming, turns SHEDDING into RECOVERY HOLD, and changes nothing
elsewhere. -/
def Obligations.RecordsAreShedBy : Prop :=
  (∀ (s : State) (r : RegRecord) (e : Entry), s.phase = .running →
    r.f ≤ s.settings.admission.fastShedF → r.e < 0 →
    s.ltc.chain.find? (fun x => (s.entryState x).energised) = some e → e ≠ sawEntry →
      ∃ t, exec (.recordAtShed r) s = .next t ∧ t.entryState e = .shedUnderfrequency
        ∧ t.ltc.relays.get e = false ∧ (∀ x : Entry, x ≠ e → t.load x = s.load x)
        ∧ t.shc.state = .shedding ∧ t.shc.count = 0 ∧ t.shc.recovery = none
        ∧ t.shc.stack = s.shc.stack ++ [e] ∧ t.ltc.chain = s.ltc.chain)
  ∧ (∀ (s : State) (r : RegRecord) (fast : Bool) (change : List Instr), s.phase = .running →
    (fast = true ↔ r.f ≤ s.settings.admission.fastShedF ∧ r.e < 0) →
    (fast = false →
      r.d = 0 ∧ r.e ≤ -(s.settings.admission.shedMargin : Int)
        ∧ (s.shc.state = .confirming ∨ s.shc.state = .shedding)
        ∧ s.settings.admission.confirmLimit ≤ s.shc.count + 1) →
    change =
      (if s.shc.state = .shedding then [] else [.noticeDelivery .shedState 0 ShedState.shedding.number]) →
      (∀ e : Entry, s.ltc.chain.find? (fun x => (s.entryState x).energised) = some e → e ≠ sawEntry →
        ∃ t, exec (.recordAtShed r) s = .next t
          ∧ t =
              { s with
                adu := t.adu, shc := t.shc, posted := t.posted
                ltc := { s.ltc with loads := t.ltc.loads, relays := t.ltc.relays } }
          ∧ t.entryState e = .shedUnderfrequency ∧ t.ltc.relays.get e = false
          ∧ (∀ x : Entry, x ≠ e → t.load x = s.load x ∧ t.ltc.relays.get x = s.ltc.relays.get x)
          ∧ t.shc =
              { s.shc with
                state := .shedding, count := 0, stack := s.shc.stack ++ [e]
                recovery := if fast then none else s.shc.recovery }
          ∧ t.adu =
              { s.adu with
                table :=
                  if (s.entryState e).isReserved then s.adu.table.filter (fun x => x.entry ≠ e)
                  else s.adu.table }
          ∧ t.posted =
              s.posted ++ [.noticeDelivery .entryChanged e.val (4 + 16 * 7)] ++ change)
      ∧ (s.ltc.chain.find? (fun x => (s.entryState x).energised) = some sawEntry →
        ∃ t, exec (.recordAtShed r) s = .next t
          ∧ t =
              { s with
                adu := t.adu, shc := t.shc, posted := t.posted
                ltc := { s.ltc with loads := t.ltc.loads, relays := t.ltc.relays } }
          ∧ t.entryState sawEntry = .off ∧ (t.load sawEntry).fields.wanted = false
          ∧ (∀ x : Entry, x ≠ sawEntry →
              t.load x = s.load x ∧ t.ltc.relays.get x = s.ltc.relays.get x)
          ∧ t.shc =
              { s.shc with
                state := .shedding, count := 0, recovery := if fast then none else s.shc.recovery }
          ∧ ((s.entryState sawEntry).isReserved = true → ∀ x ∈ t.adu.table, x.entry ≠ sawEntry)
          ∧ t.posted =
              s.posted
                ++ [.noticeDelivery .entryChanged 14 (0 + 16 * 7), .stopFromLoadTable .shed] ++ change)
      ∧ (s.ltc.chain.find? (fun x => (s.entryState x).energised) = none →
        exec (.recordAtShed r) s =
          .next
            { s with
              shc :=
                { s.shc with
                  state := .shedding, count := 0, recovery := if fast then none else s.shc.recovery }
              posted := s.posted ++ [.faultRaise ⟨.shedExhausted, .shed .shedding⟩] ++ change }))
  ∧ (∀ (s : State) (r : RegRecord), s.phase = .running →
    r.f ≤ s.settings.admission.fastShedF → r.e < 0 →
    s.ltc.chain.find? (fun x => (s.entryState x).energised) = none → s.shc.state = .shedding →
      exec (.recordAtShed r) s =
        .next
          { s with
            shc := { s.shc with count := 0, recovery := none }
            posted := s.posted ++ [.faultRaise ⟨.shedExhausted, .shed .shedding⟩] })
  ∧ (∀ (s : State) (r : RegRecord), s.phase = .running →
    (s.settings.admission.fastShedF < r.f ∨ 0 ≤ r.e) →
    r.d = 0 → r.e ≤ -(s.settings.admission.shedMargin : Int) → s.shc.state = .normal →
      exec (.recordAtShed r) s =
        .next
          { s with
            shc := { s.shc with state := .confirming, count := 1 }
            posted := s.posted ++ [.noticeDelivery .shedState 0 1] })
  ∧ (∀ (s : State) (r : RegRecord), s.phase = .running →
    (s.settings.admission.fastShedF < r.f ∨ 0 ≤ r.e) →
    r.d = 0 → r.e ≤ -(s.settings.admission.shedMargin : Int) →
    (s.shc.state = .confirming ∨ s.shc.state = .shedding) →
    s.shc.count + 1 < s.settings.admission.confirmLimit →
      exec (.recordAtShed r) s = .next { s with shc := { s.shc with count := s.shc.count + 1 } })
  ∧ (∀ (s : State) (r : RegRecord), s.phase = .running →
    (s.settings.admission.fastShedF < r.f ∨ 0 ≤ r.e) →
    (0 < r.d ∨ -(s.settings.admission.shedMargin : Int) < r.e) → s.shc.state = .confirming →
      exec (.recordAtShed r) s =
        .next
          { s with
            shc := { s.shc with state := .normal, count := 0 }
            posted := s.posted ++ [.noticeDelivery .shedState 0 0] })
  ∧ (∀ (s : State) (r : RegRecord), s.phase = .running →
    (s.settings.admission.fastShedF < r.f ∨ 0 ≤ r.e) →
    (0 < r.d ∨ -(s.settings.admission.shedMargin : Int) < r.e) → s.shc.state = .shedding →
      exec (.recordAtShed r) s =
        .next
          { s with
            shc := { s.shc with state := .recoveryHold, count := 0, recovery := some s.timebase }
            posted := s.posted ++ [.noticeDelivery .shedState 0 3] })
  ∧ (∀ (s : State) (r : RegRecord), s.phase = .running →
    (s.settings.admission.fastShedF < r.f ∨ 0 ≤ r.e) →
    r.d = 0 → r.e ≤ -(s.settings.admission.shedMargin : Int) → s.shc.state = .recoveryHold →
      exec (.recordAtShed r) s =
        .next
          { s with
            shc := { s.shc with state := .shedding, count := 1, recovery := none }
            posted := s.posted ++ [.noticeDelivery .shedState 0 2] })
  ∧ (∀ (s : State) (r : RegRecord), s.phase = .running →
    (s.settings.admission.fastShedF < r.f ∨ 0 ≤ r.e) →
    (0 < r.d ∨ -(s.settings.admission.shedMargin : Int) < r.e) →
    (s.shc.state = .normal ∨ s.shc.state = .recoveryHold) →
      exec (.recordAtShed r) s = .next s)

/-- R102 to R106: the recovery hold returns the stack to the queue; the line-loss timer starts with LINE
ABSENT and sheds for line loss at 2 s; the restart hold starts at REGULATING and restarts every entry SHED
for LINE LOSS. -/
def Obligations.ShedTimersExpire : Prop :=
  (∀ (s : State) (start : Time), s.phase = .running → s.shc.state = .recoveryHold →
    s.shc.recovery = some start →
    s.settings.admission.recoveryHold * 1000000 ≤ s.elapsed start →
      ∃ t, exec .recoveryHoldExpiry s = .next t ∧ t.shc.state = .normal ∧ t.shc.count = 0
        ∧ t.shc.stack = [] ∧ t.shc.recovery = none
        ∧ (∀ e ∈ s.shc.stack, s.entryState e = .shedUnderfrequency → t.entryState e = .waiting)
        ∧ (∀ e : Entry, e ∉ s.shc.stack → t.load e = s.load e))
  ∧ (∀ (s : State) (l : LineState), s.phase = .running →
    exec (.lineStateAtShed l) s =
      .next
        { s with
          shc := { s.shc with lineLoss := if l = .absent then some s.timebase else none } })
  ∧ (∀ (s : State) (start : Time), s.phase = .running → s.shc.lineLoss = some start →
    2000000 ≤ s.elapsed start → s.shc.regulating = false →
      exec .lineLossTimerExpiry s =
        .next
          { s with
            shc :=
              { s.shc with
                state := .normal, count := 0, recovery := none, stack := [], restartPending := true
                lineLoss := none }
            posted := s.posted ++ [.lineLossRequest, .noticeDelivery .shedState 0 4] })
  ∧ (∀ (s : State) (c : RegChange), s.phase = .running → c.state = .regulating →
    s.shc.regulating = false → s.shc.restartPending = true →
      exec (.regStateAtShed c) s =
        .next { s with shc := { s.shc with regulating := true, restart := some s.timebase } })
  ∧ (∀ (s : State) (c : RegChange), s.phase = .running → c.state ≠ .regulating →
    s.shc.regulating = true → s.shc.state = .confirming →
      exec (.regStateAtShed c) s =
        .next
          { s with
            shc :=
              { s.shc with regulating := false, restart := none, state := .normal, count := 0 }
            posted := s.posted ++ [.noticeDelivery .shedState 0 0] })
  ∧ (∀ (s : State) (start : Time), s.phase = .running → s.shc.restart = some start →
    s.settings.admission.restartHold * 1000000 ≤ s.elapsed start →
      ∃ t, exec .restartHoldExpiry s = .next t
        ∧ t.shc = { s.shc with restartPending := false, restart := none }
        ∧ (∀ e : Entry,
            t.entryState e = (if s.entryState e = .shedLineLoss then .waiting else s.entryState e))
        ∧ t.posted.getLast? = some (.noticeDelivery .shedState 0 5))

/-! ### Rota Player (chapter 7) -/

/-- R112, R117, R118, R120: ROTA WRITE stores the sets; ROTA START plays a page from a tap and applies its
slot; ROTA SPLIT writes only the half without the pointer and is refused in the last slot of a half and
in ROTA IDLE; ROTA STOP ends play and returns every entry in ROTA-OFF (outstanding slot applications are
taken first by the model's inference, log 28). -/
def Obligations.RotaIsCommanded : Prop :=
  (∀ (s : State) (b first : Byte) (page : Fin 4) (set : Half), s.phase = .running →
    pageOf b = some page → first.toNat < 64 →
      ∃ t, exec (.rotaWrite .h b first [set]) s = .next t ∧ Replied s t .h .rotaWrite .done []
        ∧ (∀ (g : Fin 4) (k : Fin 64), (t.rtp.pages.get g).get k =
            (if g = page ∧ k.val = first.toNat then set.setWidth 14
             else (s.rtp.pages.get g).get k))
        ∧ t.rtp = { s.rtp with pages := t.rtp.pages })
  ∧ (∀ (s : State) (b c : Byte) (page : Fin 4) (tap : Fin 64), s.phase = .running →
    pageOf b = some page → slotOf c = some tap →
      exec (.rotaStart .h b c) s =
        .next
          ({ s with
              rtp :=
                { s.rtp with
                  buffer := s.rtp.pages.get page, pointer := tap, split := none, seconds := 0
                  second := some s.timebase, playing := true }
              posted :=
                s.posted ++ [Instr.slotApplication ((s.rtp.pages.get page).get tap)] }.answer .h 0x41 .done
            []))
  ∧ (∀ (s : State) (b c : Byte) (page : Fin 4) (tap : Fin 32), s.phase = .running →
    pageOf b = some page → tapOf c = some tap → s.rtp.playing = true → s.rtp.pointer.val ≠ 31 →
    s.rtp.pointer.val ≠ 63 →
      ∃ t, exec (.rotaSplit .h b c) s = .next t ∧ Replied s t .h .rotaSplit .done []
        ∧ (∀ k : Fin 64, t.rtp.buffer.get k =
            (if (k.val < 32 ↔ s.rtp.pointer.val < 32) then s.rtp.buffer.get k
             else (s.rtp.pages.get page).get k))
        ∧ t.rtp.pointer = s.rtp.pointer ∧ t.rtp.pages = s.rtp.pages
        ∧ ∃ half, t.rtp.split = some { half := half, tap := tap, page := page }
            ∧ (half = .low ↔ 32 ≤ s.rtp.pointer.val))
  ∧ (∀ (s : State) (b c : Byte) (page : Fin 4) (tap : Fin 32), s.phase = .running →
    pageOf b = some page → tapOf c = some tap →
      (s.rtp.playing = false → exec (.rotaSplit .h b c) s = .next (s.answer .h 0x42 .notPlaying []))
      ∧ (s.rtp.playing = true → s.rtp.pointer.val = 31 ∨ s.rtp.pointer.val = 63 →
          exec (.rotaSplit .h b c) s = .next (s.answer .h 0x42 .tooClose [])))
  ∧ (∀ s : State, s.phase = .running → s.rtp.playing = true →
    (∀ a, Instr.slotApplication a ∉ s.posted) →
      ∃ t, exec (.rotaStop .h) s = .next t ∧ Replied s t .h .rotaStop .done []
        ∧ t.rtp.playing = false ∧ t.rtp.second = none ∧ t.rtp.split = none
        ∧ ∀ e : Entry,
            t.entryState e = (if s.entryState e = .rotaOff then .waiting else s.entryState e))

/-- R113 to R115: the slot timer counts a second, advances within a half at the slot period, and crosses
at slots 31 and 63, to the pending split's tap when there is one, with ROTA CROSSED. -/
def Obligations.SlotsFollowEachOther : Prop :=
  (∀ (s : State) (start : Time), s.phase = .running → s.rtp.playing = true →
    s.rtp.second = some start → 1000000 ≤ s.elapsed start →
    s.rtp.seconds < s.settings.slotPeriod * 60 →
      exec .slotTimerSecond s =
        .next
          { s with
            rtp :=
              { s.rtp with seconds := s.rtp.seconds + 1, second := some (start + 1000000) } })
  ∧ (∀ (s : State) (start : Time) (next : Fin 64), s.phase = .running → s.rtp.playing = true →
    s.rtp.second = some start → s.settings.slotPeriod * 60 ≤ s.rtp.seconds →
    s.rtp.pointer.val ≠ 31 → s.rtp.pointer.val ≠ 63 → next.val = s.rtp.pointer.val + 1 →
      exec .slotTimerExpiry s =
        .next
          { s with
            rtp := { s.rtp with pointer := next, seconds := 0, second := some start }
            posted := s.posted ++ [.slotApplication (s.rtp.buffer.get next)] })
  ∧ (∀ (s : State) (start : Time) (next : Fin 64), s.phase = .running → s.rtp.playing = true →
    s.rtp.second = some start → s.settings.slotPeriod * 60 ≤ s.rtp.seconds →
    (s.rtp.pointer.val = 31 ∨ s.rtp.pointer.val = 63) →
    next.val =
      (if s.rtp.pointer.val = 31 then 32 else 0) + (s.rtp.split.elim 0 (fun x => x.tap.val)) →
      exec .slotTimerExpiry s =
        .next
          { s with
            rtp :=
              { s.rtp with pointer := next, split := none, seconds := 0, second := some start }
            posted :=
              s.posted
                ++ [.noticeDelivery .rotaCrossed 0
                    (next.val + (if s.rtp.split.isSome then 64 else 0)),
                  .slotApplication (s.rtp.buffer.get next)] })

/-! ### Saw Sequencer (chapter 8) -/

/-- R124 to R127: SAW START queues the saw with its surge; the begin signal closes MAIN and STAR; the star
dwell ends in changeover; and with AUX_STAR open the dead time ends in delta. -/
def Obligations.SawRunsUp : Prop :=
  (∀ (s : State) (surge : Half) (b : Byte) (d : Bool) (w : Nat), s.phase = .running →
    yesNo b = some d → s.sws.latch = false → s.sws.stage = .off → s.entryState sawEntry = .off →
    s.sws.estop = false → s.tsv.latch = false → w = max 100 (min 30000 surge.toNat) →
      ∃ t, exec (.sawStart .s surge b) s = .next t
        ∧ Replied s t .s .sawStart (if w = surge.toNat then .done else .clamped) []
        ∧ t.sws = { s.sws with stage := .waiting, lastStop := none }
        ∧ t.entryState sawEntry = .waiting ∧ (t.load sawEntry).fields.watts = w
        ∧ (∀ e : Entry, e ≠ sawEntry → t.load e = s.load e)
        ∧ t.adu.saw =
            some
              { surge := w, displace := d, displaced := false, inserted := s.timebase
                refused := false }
        ∧ sawEntry ∈ t.adu.queue
        ∧ t.posted =
            s.posted ++ [.noticeDelivery .sawStage 14 1, .noticeDelivery .entryChanged 14 (1 + 16)])
  ∧ (∀ (s : State) (surge : Half) (b : Byte) (d : Bool), s.phase = .running → yesNo b = some d →
    (s.sws.latch = true → exec (.sawStart .s surge b) s = .next (s.answer .s 0x30 .sawFault []))
    ∧ (s.sws.latch = false → s.sws.stage ≠ .off →
        exec (.sawStart .s surge b) s = .next (s.answer .s 0x30 .state []))
    ∧ (s.sws.latch = false → s.sws.stage = .off → s.entryState sawEntry = .off →
        s.sws.estop = true → exec (.sawStart .s surge b) s = .next (s.answer .s 0x30 .estop []))
    ∧ (s.sws.latch = false → s.sws.stage = .off → s.entryState sawEntry = .off →
        s.sws.estop = false → s.tsv.latch = true →
          exec (.sawStart .s surge b) s = .next (s.answer .s 0x30 .tripped [])))
  ∧ (∀ s : State, s.phase = .running → s.sws.stage = .waiting → s.sws.estop = false →
    (s.entryState sawEntry).energised = true →
      exec .beginSignal s =
        .next
          { s with
            sws :=
              { s.sws with
                stage := .star, commands := ⟨true, true, false⟩
                checks := ⟨some s.timebase, some s.timebase, s.sws.checks.delta⟩
                dwell := some s.timebase }
            posted := s.posted ++ [.noticeDelivery .sawStage 14 (2 + 16 * 1)] })
  ∧ (∀ (s : State) (start : Time), s.phase = .running → s.sws.stage = .star →
    s.sws.dwell = some start →
    s.settings.admission.starDwell * 1000 ≤ s.elapsed start →
      exec .starDwellExpiry s =
        .next
          { s with
            sws :=
              { s.sws with
                stage := .changeover, commands := ⟨true, false, false⟩
                checks := { s.sws.checks with star := some s.timebase }
                dwell := none, dead := some s.timebase }
            posted := s.posted ++ [.noticeDelivery .sawStage 14 (3 + 16 * 2)] })
  ∧ (∀ (s : State) (start : Time), s.phase = .running → s.sws.stage = .changeover →
    s.sws.dead = some start → s.settings.admission.deadTime * 1000 ≤ s.elapsed start →
      exec .deadTimeExpiry s =
        .next
          (if s.sws.aux.star then { s with sws := { s.sws with dead := none } }
           else
            { s with
              sws :=
                { s.sws with
                  stage := .delta, commands := ⟨true, false, true⟩
                  checks := { s.sws.checks with delta := some s.timebase }, dead := none }
              posted := s.posted ++ [.noticeDelivery .sawStage 14 (4 + 16 * 3)] }))

/-- R128 to R130, R132: a check that confirms stops its timer and one that does not faults the saw; an
unchecked change in a running stage faults it, a checked one does not; the last report of OPEN ends SAW
STOPPING, and the stopping limit faults the lowest contactor still closed. -/
def Obligations.ContactorsAreWatched : Prop :=
  (∀ (s : State) (k : Contactor) (start : Time), s.phase = .running →
    s.sws.checks.get k = some start → 150000 ≤ s.elapsed start →
      exec (.checkTimerExpiry k) s =
        .next
          (if s.sws.aux.get k = s.sws.commands.get k then
            { s with sws := { s.sws with checks := s.sws.checks.set k none } }
           else
            { s with
              sws :=
                { s.sws with
                  stage := .fault, commands := ⟨false, false, false⟩, checks := ⟨none, none, none⟩
                  dwell := none, dead := none, stopping := none, latch := true
                  record :=
                    some
                      { contactor := k, kind := .noConfirm, stage := s.sws.stage
                        time := s.timebase } }
              posted :=
                s.posted
                  ++ [.noticeDelivery .sawStage 14 (6 + 16 * 12),
                    .faultRaise ⟨.sawContactor, .saw .fault⟩, .sawStoppedReport] }))
  ∧ (∀ (s : State) (k : Contactor) (closed : Bool), s.phase = .running →
    s.sws.aux.get k ≠ closed → s.sws.checks.get k = none → s.sws.stage = .delta →
      ∃ t, exec (.auxChange k closed) s = .next t ∧ t.sws.stage = .fault
        ∧ t.sws.commands = ⟨false, false, false⟩ ∧ t.sws.latch = true
        ∧ t.sws.record =
            some { contactor := k, kind := .uncommanded, stage := .delta, time := s.timebase }
        ∧ t.sws.aux = s.sws.aux.set k closed)
  ∧ (∀ (s : State) (k : Contactor) (closed : Bool), s.phase = .running →
    s.sws.aux.get k ≠ closed → (s.sws.checks.get k).isSome = true → s.sws.stage ≠ .changeover →
      exec (.auxChange k closed) s =
        .next { s with sws := { s.sws with aux := s.sws.aux.set k closed } })
  ∧ (∀ (s : State) (k : Contactor), s.phase = .running → s.sws.stage = .stopping →
    s.sws.checks.get k = none → s.sws.aux.get k = true →
    s.sws.aux.set k false = ⟨false, false, false⟩ → s.adu.displaced = [] →
      ∃ t, exec (.auxChange k false) s = .next t ∧ t.sws.stage = .off ∧ t.sws.stopping = none
        ∧ t.ltc = s.ltc
        ∧ t.posted =
            s.posted ++ [.noticeDelivery .sawStage 14 (0 + 16 * 11), .sawStoppedReport])
  ∧ (∀ (s : State) (start : Time), s.phase = .running → s.sws.stage = .stopping →
    s.sws.stopping = some start → 500000 ≤ s.elapsed start → s.sws.aux.main = true →
      ∃ t, exec .stoppingLimitExpiry s = .next t ∧ t.sws.stage = .fault
        ∧ t.sws.commands = ⟨false, false, false⟩ ∧ t.sws.latch = true
        ∧ t.sws.record =
            some { contactor := .main, kind := .notOpen, stage := .stopping, time := s.timebase }
        ∧ t.posted =
            s.posted
              ++ [.noticeDelivery .sawStage 14 (6 + 16 * 13),
                .faultRaise ⟨.sawContactor, .saw .fault⟩, .sawStoppedReport])

/-- R131 to R137: every stop opens all the contactors of a running saw and enters SAW STOPPING while an
auxiliary is closed; SAW STOP of a saw at rest is answered DONE and changes nothing; CLEAR SAW FAULT
clears the fault with every auxiliary open, and is refused otherwise. -/
def Obligations.SawIsStopped : Prop :=
  (∀ (s : State) (cause : SawCause) (i : Instr), s.phase = .running →
    s.sws.stage ∈ [SawStage.star, .changeover, .delta] → s.sws.aux.main = true →
    (i = .sawStop .s ∧ cause = .stopPortS ∨ i = .sawStop .g ∧ cause = .stopPortG
      ∨ i = .stopFromLoadTable .shed ∧ cause = .shed
      ∨ i = .stopFromLoadTable .lineLoss ∧ cause = .lineLoss
      ∨ i = .sawEstopChange true ∧ cause = .estop ∧ s.sws.estop = false) →
      ∃ t, exec i s = .next t
        ∧ t.sws =
            { s.sws with
              stage := .stopping, commands := ⟨false, false, false⟩, checks := ⟨none, none, none⟩
              dwell := none, dead := none, stopping := some s.timebase, lastStop := some cause
              opened := ⟨false, false, false⟩, estop := t.sws.estop }
        ∧ t.ltc = s.ltc
        ∧ t.posted = s.posted ++ [.noticeDelivery .sawStage 14 (5 + 16 * cause.number)])
  ∧ (∀ (s : State) (p : Port), s.phase = .running → (p = .s ∨ p = .g) →
    s.sws.stage ∈ [SawStage.off, .stopping, .fault] →
      exec (.sawStop p) s = .next (s.answer p 0x31 .done []))
  ∧ (∀ s : State, s.phase = .running → s.sws.estop = true →
      exec (.sawEstopChange false) s = .next { s with sws := { s.sws with estop := false } })
  ∧ (∀ s : State, s.phase = .running →
    (s.sws.latch = false → exec (.clearSawFault .s) s = .next (s.answer .s 0x32 .state []))
    ∧ (s.sws.latch = true → s.sws.aux ≠ ⟨false, false, false⟩ →
        exec (.clearSawFault .s) s = .next (s.answer .s 0x32 .conditions []))
    ∧ (s.sws.latch = true → s.sws.aux = ⟨false, false, false⟩ → s.sws.stage = .fault →
        s.adu.displaced = [] →
          exec (.clearSawFault .s) s =
            .next
              ({ s with
                  sws := { s.sws with stage := .off, latch := false, record := none }
                  posted := s.posted ++ [Instr.noticeDelivery .sawStage 14 (0 + 16 * 14)] }.answer .s
                0x32 .done [])))

/-! ### Turbine Supervisor (chapter 9) -/

/-- R144, R148 to R151: a record moves the overspeed counts and trips at their limits; at a record that does
not trip, the hundredth advice gives direction, excess and GATE ADVICE, and the slip window opens, counts and
is judged, with BELT SLIP at the third strike (the three in this order by the model's choice, log 53); leaving
REGULATING zeroes the counts, sets the last SAT HIGH to clear and closes the slip window, whose two counts stand
(log 35; what the supervisor knows of the regulation state before its first change is log 12); shaft pulses are
captured and the gap empties them; the standstill timer runs with the line PRESENT and the shaft in use, and
raises SHAFT STILL. -/
def Obligations.TurbineIsWatched : Prop :=
  (∀ (s : State) (r : RegRecord), s.phase = .running →
    ∃ t, exec (.recordAtTurbine r) s = .next t ∧ t = { s with tsv := t.tsv, posted := t.posted }
      ∧ t.tsv.lastF = some r.f ∧ t.tsv.lastSatHigh = some r.satHigh ∧ t.tsv.lastA = some r.a
      ∧ t.tsv.lineCount =
          (if s.settings.supervision.overspeedF ≤ r.f ∧ s.tsv.lineCount + 1 ≠ 3 then
            s.tsv.lineCount + 1 else 0)
      ∧ t.tsv.satCount =
          (if r.satHigh = true ∧ (s.settings.supervision.satMargin : Int) ≤ r.e
              ∧ s.tsv.satCount + 1 ≠ 25 then s.tsv.satCount + 1 else 0)
      ∧ t.tsv.adviceCount = (if s.tsv.adviceCount + 1 = 100 then 0 else s.tsv.adviceCount + 1)
      ∧ (t.tsv.latch = true ↔ s.tsv.latch = true
          ∨ s.settings.supervision.overspeedF ≤ r.f ∧ s.tsv.lineCount + 1 = 3
          ∨ r.satHigh = true ∧ (s.settings.supervision.satMargin : Int) ≤ r.e
              ∧ s.tsv.satCount + 1 = 25))
  ∧ (∀ (s : State) (r : RegRecord) (a mid : Nat) (due judged strike : Bool) (k100 : Nat),
    s.phase = .running →
    (s.settings.supervision.overspeedF ≤ r.f → s.tsv.lineCount + 1 ≠ 3) →
    (r.satHigh = true → (s.settings.supervision.satMargin : Int) ≤ r.e → s.tsv.satCount + 1 ≠ 25) →
    a = (r.a + 8) / 16 →
    mid = (s.settings.supervision.adviceLow + s.settings.supervision.adviceHigh) / 2 →
    k100 = s.settings.supervision.k100 →
    (due = true ↔ s.tsv.adviceCount + 1 = 100 ∧ s.tsv.latch = false) →
    (judged = true ↔ 0 < k100 ∧ s.tsv.windowOpen = true ∧ s.tsv.windowRecords + 1 = 100) →
    (strike = true ↔
      s.settings.supervision.slipLimit * k100 < ((s.tsv.windowPulses : Int) - k100).natAbs * 1000) →
      ∃ t, exec (.recordAtTurbine r) s = .next t
        ∧ t.tsv =
            { s.tsv with
              lastF := some r.f, lastSatHigh := some r.satHigh, lastA := some r.a
              lineCount := t.tsv.lineCount, satCount := t.tsv.satCount
              adviceCount := t.tsv.adviceCount
              direction :=
                if due = false then s.tsv.direction
                else if s.settings.supervision.adviceHigh < a then .closeGate
                else if a < s.settings.supervision.adviceLow then .openGate else .hold
              excess := if due = false then s.tsv.excess else (a : Int) - mid
              windowOpen := s.tsv.windowOpen || decide (0 < k100)
              windowRecords :=
                if k100 = 0 then s.tsv.windowRecords
                else if judged = true ∨ s.tsv.windowOpen = false then 0 else s.tsv.windowRecords + 1
              windowPulses :=
                if judged = true ∨ 0 < k100 ∧ s.tsv.windowOpen = false then 0 else s.tsv.windowPulses
              strikes :=
                if judged = false then s.tsv.strikes
                else if strike = true ∧ s.tsv.strikes + 1 ≠ 3 then s.tsv.strikes + 1 else 0 }
        ∧ t.posted =
            s.posted
              ++ (if t.tsv.direction = s.tsv.direction then []
                  else
                    [.noticeDelivery .gateAdvice 0
                      (match t.tsv.direction with
                       | .hold => 0 | .closeGate => 1 | .openGate => 2 | .tripped => 3)])
              ++ (if judged = true ∧ strike = true ∧ s.tsv.strikes + 1 = 3 then
                    [.faultRaise ⟨.beltSlip, .turbine s.tsv.latch⟩] else []))
  ∧ (∀ (s : State) (c : RegChange), s.phase = .running → c.state ≠ .regulating →
    exec (.regStateAtTurbine c) s =
      .next
        (if s.tsv.regulating then
          { s with
            tsv :=
              { s.tsv with
                regulating := false, lineCount := 0, satCount := 0, lastSatHigh := some false
                windowOpen := false } }
         else s))
  ∧ (∀ (s : State) (c : RegChange), s.phase = .running → c.state = .regulating →
    exec (.regStateAtTurbine c) s = .next { s with tsv := { s.tsv with regulating := true } })
  ∧ (∀ (s : State) (l : LineState), s.phase = .running →
    exec (.lineStateAtTurbine l) s =
      .next
        { s with
          tsv :=
            { s.tsv with
              line := l
              standstill :=
                if l = .present ∧ (0 < s.settings.supervision.k100
                    ∨ 0 < s.settings.supervision.shaftLimit) then some s.timebase else none } })
  ∧ (∀ (s : State), s.phase = .running → s.settings.supervision.shaftLimit = 0 →
    s.tsv.standstill = none → s.tsv.line ≠ .present →
      exec .shaftPulse s =
        .next
          { s with
            tsv :=
              { s.tsv with
                prevPulse := s.tsv.lastPulse, lastPulse := some s.timebase, gap := some s.timebase
                windowPulses :=
                  if s.tsv.windowOpen then min 65535 (s.tsv.windowPulses + 1)
                  else s.tsv.windowPulses } })
  ∧ (∀ (s : State) (prev : Time), s.phase = .running → s.tsv.lastPulse = some prev →
    s.tsv.latch = false → s.tsv.shaftCount = 4 →
    s.elapsed prev < s.settings.supervision.shaftLimit →
      ∃ t, exec .shaftPulse s = .next t ∧ t.tsv.latch = true ∧ t.tsv.runPermit = false
        ∧ t.tsv.record =
            some { cause := .shaftOverspeed, time := s.timebase, f := s.tsv.lastF.getD 0 }
        ∧ t.tsv.shaftCount = 0 ∧ t.tsv.mark = .pending)
  ∧ (∀ (s : State) (start : Time), s.phase = .running → s.tsv.gap = some start →
    2000000 ≤ s.elapsed start →
      exec .shaftGapTimerExpiry s =
        .next
          { s with
            tsv := { s.tsv with lastPulse := none, prevPulse := none, shaftCount := 0, gap := none } })
  ∧ (∀ (s : State) (start : Time), s.phase = .running → s.tsv.standstill = some start →
    2000000 ≤ s.elapsed start →
      exec .standstillTimerExpiry s =
        .next
          { s with
            tsv := { s.tsv with standstill := none }
            posted := s.posted ++ [.faultRaise ⟨.shaftStill, .turbine s.tsv.latch⟩] })

/-- R143, R145 to R147, R150: TRIP sets a clear latch, drops RUN_PERMIT, writes the record and marks the trip
area; with the latch set it only raises the fault again; TRIP RESET clears it under its conditions, with
notice TRIP and then the advice computed from the last A, GATE ADVICE when the direction changes; the 30 s are
marked met; and the trip area takes what stood when its write began, with its CRC-16 check (over
bytes whose layout is open: log 6). -/
def Obligations.TripsAreTaken : Prop :=
  (∀ (s : State) (p : Port), s.phase = .running → s.tsv.latch = false →
    ∃ t, exec (.trip p) s = .next t ∧ Replied s t p .trip .done []
      ∧ t.tsv =
          { s.tsv with
            latch := true, runPermit := false
            record := some { cause := .requested, time := s.timebase, f := s.tsv.lastF.getD 0 }
            reference := .since s.timebase, mark := .pending, direction := .tripped, excess := 0 }
      ∧ Instr.faultRaise ⟨.overspeedTrip, .turbine true⟩ ∈ t.posted
      ∧ Instr.noticeDelivery .trip 0 4 ∈ t.posted
      ∧ t.sws = s.sws ∧ t.adu = s.adu ∧ t.ltc = s.ltc)
  ∧ (∀ (s : State) (p : Port), s.phase = .running → s.tsv.latch = true →
      exec (.trip p) s =
        .next
          ({ s with
              posted := s.posted ++ [Instr.faultRaise ⟨.overspeedTrip, .turbine true⟩] }.answer p 0x52
            .done []))
  ∧ (∀ s : State, s.phase = .running →
    (s.tsv.latch = false → exec (.tripReset .g) s = .next (s.answer .g 0x53 .state []))
    ∧ (s.tsv.latch = true → s.resetAllowed = false →
        exec (.tripReset .g) s = .next (s.answer .g 0x53 .conditions []))
    ∧ (s.tsv.latch = true → s.resetAllowed = true → ∀ (mid : Nat) (direction : Direction) (excess : Int),
        mid = (s.settings.supervision.adviceLow + s.settings.supervision.adviceHigh) / 2 →
        (s.tsv.lastA = none → direction = .hold ∧ excess = 0) →
        (∀ last a, s.tsv.lastA = some last → a = (last + 8) / 16 →
          excess = (a : Int) - mid
            ∧ direction =
                (if s.settings.supervision.adviceHigh < a then .closeGate
                 else if a < s.settings.supervision.adviceLow then .openGate else .hold)) →
        ∃ t, exec (.tripReset .g) s = .next t ∧ Replied s t .g .tripReset .done []
          ∧ t.tsv =
              { s.tsv with
                latch := false, runPermit := true, mark := .pending
                direction := direction, excess := excess }
          ∧ t.posted =
              s.posted
                ++ [.noticeDelivery .trip 0 0]
                ++ (if direction = s.tsv.direction then []
                    else
                      [.noticeDelivery .gateAdvice 0
                        (match direction with
                         | .hold => 0 | .closeGate => 1 | .openGate => 2 | .tripped => 3)])))
  ∧ (∀ (s : State) (start : Time), s.phase = .running → s.tsv.reference = .since start →
    30000000 ≤ s.elapsed start →
      exec .tripResetTimeMet s = .next { s with tsv := { s.tsv with reference := .met } })
  ∧ (∀ s : State, s.phase = .running → s.tsv.mark = .pending → s.sst.areaWrite = none →
    s.sst.save = .idle →
      exec .tripAreaWriteStart s =
        .next
          { s with
            tsv := { s.tsv with mark := .inProgress }
            sst :=
              { s.sst with
                areaWrite :=
                  some { start := s.timebase, latch := s.tsv.latch, record := s.tsv.record } } })
  ∧ (∀ (s : State) (w : AreaWrite), s.phase = .running → s.sst.areaWrite = some w →
    s.tsv.mark = .inProgress →
      exec .tripAreaWriteEnd s =
        .next
          { s with
            tsv := { s.tsv with mark := .clear }
            sst :=
              { s.sst with
                areaWrite := none
                tripArea :=
                  .written w.latch w.record
                    (crc16 (Config.storedBytes (w.latch.toNat :: tripItems w.record))) } })

/-- R152: an amount outside 1 to 200 is MALFORMED; GATE OPEN is refused with TRIPPED while the latch is
set and with SATURATED while the last SAT HIGH is set, and otherwise granted in full, the tokens standing;
ports S and H are denied both requests. What is MALFORMED or DENIED is recorded with the frame's bytes
(sections 10.1 and 10.3, log 24). -/
def Obligations.GateOpenIsJudged : Prop :=
  (∀ (s : State) (a : Byte), s.phase = .running → (a = 0 ∨ 200 < a.toNat) →
    exec (.gateOpen .g a) s =
      .next ((s.linkFault .g .malformed (Instr.frame (.gateOpen .g a))).answer .g 0x50 .malformed [])
    ∧ exec (.gateClose .g a) s =
      .next
        ((s.linkFault .g .malformed (Instr.frame (.gateClose .g a))).answer .g 0x51 .malformed []))
  ∧ (∀ (s : State) (a : Byte), s.phase = .running → 1 ≤ a.toNat → a.toNat ≤ 200 →
    exec (.gateOpen .g a) s =
      .next
        (if s.tsv.latch then s.answer .g 0x50 .tripped []
         else if s.tsv.lastSatHigh = some true then s.answer .g 0x50 .saturated []
         else s.answer .g 0x50 .done [a]))
  ∧ (∀ (s : State) (a : Byte) (p : Port), s.phase = .running → p ≠ .g →
    exec (.gateOpen p a) s =
      .next ((s.linkFault p .denied (Instr.frame (.gateOpen p a))).answer p 0x50 .denied [])
    ∧ exec (.gateClose p a) s =
      .next ((s.linkFault p .denied (Instr.frame (.gateClose p a))).answer p 0x51 .denied []))

/-- R153: GATE CLOSE is refused with an amount of 0 while a reservation is held and no trip stands, and
otherwise granted from the tokens; each 200 ms gains a token up to 50. -/
def Obligations.GateCloseSpendsTokens : Prop :=
  (∀ (s : State) (a : Byte), s.phase = .running → 1 ≤ a.toNat → a.toNat ≤ 200 →
    s.adu.table ≠ [] → s.tsv.latch = false →
      exec (.gateClose .g a) s = .next (s.answer .g 0x51 .reservationHeld [0]))
  ∧ (∀ (s : State) (a : Byte) (granted : Nat), s.phase = .running → 1 ≤ a.toNat → a.toNat ≤ 200 →
    (s.adu.table = [] ∨ s.tsv.latch = true) → granted = min a.toNat s.tsv.tokens →
      exec (.gateClose .g a) s =
        .next
          ({ s with
              tsv :=
                { s.tsv with
                  tokens := s.tsv.tokens - granted
                  accrual :=
                    if s.tsv.tokens = 50 ∧ 0 < granted then some s.timebase
                    else s.tsv.accrual } }.answer .g 0x51 .done (n1 granted)))
  ∧ (∀ (s : State) (start : Time), s.phase = .running → s.tsv.accrual = some start →
    200000 ≤ s.elapsed start → s.tsv.tokens < 50 →
      exec .tokenGain s =
        .next
          { s with
            tsv :=
              { s.tsv with
                tokens := s.tsv.tokens + 1
                accrual := if s.tsv.tokens = 49 then none else some s.timebase } })

/-! ### Station ports (chapter 10) -/

/-- R155, R157, R159: a start byte begins a frame, a LEN out of range is OVERLONG, a late gap is a FRAME
TIMEOUT; bytes are disregarded while DE is asserted; a response begins at 0.5 ms or later and DE is
released at its end. By the model's choice or inference: SETUP_EN comes with each byte (log 8); a response
begins at any moment from 0.5 ms on, without a bound at 1 ms (log 19), and ends when RESPONSE_END comes, at any
moment (log 20); a late gap is a FRAME TIMEOUT of any started frame, one that DE cut short too (log 26), and
as a command of its own it says that no break is on the line (log 37). -/
def Obligations.FramesAreTimed : Prop :=
  (∀ (s : State) (p : Port) (level : Bool), s.phase = .running → (s.port p).de = false →
    (s.port p).rx.mode = .hunt →
      ∃ t, exec (.rxByte p 0xC3 level) s = .next t
        ∧ (t.port p).rx = { mode := .length, bytes := (s.port p).rx.bytes ++ [0xC3],
                            last := s.timebase }
        ∧ (t.port p).faults = (s.port p).faults)
  ∧ (∀ (s : State) (p : Port) (b : Byte) (level : Bool), s.phase = .running →
    (s.port p).de = false → (s.port p).rx.mode = .hunt → b ≠ 0xC3 →
      exec (.rxByte p b level) s = .next { s with setupEn := level })
  ∧ (∀ (s : State) (p : Port) (b : Byte) (level : Bool), s.phase = .running →
    (s.port p).de = true → exec (.rxByte p b level) s = .next { s with setupEn := level })
  ∧ (∀ (s : State) (p : Port) (b : Byte) (level : Bool), s.phase = .running →
    (s.port p).de = false → (s.port p).rx.mode = .length → (s.port p).rx.bytes = [0xC3] →
    s.elapsed (s.port p).rx.last ≤ 2000 → (b = 0 ∨ 48 < b.toNat) →
      ∃ t, exec (.rxByte p b level) s = .next t ∧ (t.port p).rx.mode = .hunt
        ∧ (t.port p).tx = (s.port p).tx
        ∧ (t.port p).faults = (s.port p).faults.record .overlong [0xC3, b])
  ∧ (∀ (s : State) (p : Port), s.phase = .running → (s.port p).rx.mode ≠ .hunt →
    2000 < s.elapsed (s.port p).rx.last →
      ∃ t, exec (.frameTimeout p) s = .next t ∧ (t.port p).rx.mode = .hunt
        ∧ (t.port p).rx.bytes = [] ∧ (t.port p).tx = (s.port p).tx
        ∧ (t.port p).faults = (s.port p).faults.record .frameTimeout (s.port p).rx.bytes
        ∧ t.posted = s.posted)
  ∧ (∀ (s : State) (p : Port) (since : Time) (r : Response), s.phase = .running →
    (s.port p).tx = .ready since r → 500 ≤ s.elapsed since →
      exec (.responseStart p) s =
        .next (s.setPort p { s.port p with tx := .sending s.timebase r.frame }))
  ∧ (∀ (s : State) (p : Port) (since : Time) (frame : List Byte), s.phase = .running →
    (s.port p).tx = .sending since frame → (s.port p).baudNext = none →
      exec (.responseEnd p) s = .next (s.setPort p { s.port p with tx := .idle }))

/-- R159 to R161, R167: PORT RESET and a break return the receiver to HUNT and empty the port's notices,
mask and fill record, keeping its link faults and controls; CLEAR LINK FAULT clears the record; silence
makes a port ABSENT, and on port S stops the saw. -/
def Obligations.PortsAreReset : Prop :=
  (∀ (s : State) (p : Port) (i : Instr), s.phase = .running →
    (i = .portReset p ∨ i = .lineBreak p ∧ (s.port p).de = false ∧ (s.port p).broken = false) →
      ∃ t, exec i s = .next t ∧ (t.port p).rx.mode = .hunt ∧ (t.port p).rx.bytes = []
        ∧ (t.notices p).queue = [] ∧ (∀ k : Fin 14, (t.notices p).slots.get k = none)
        ∧ (t.notices p).route = (s.notices p).route ∧ (t.notices p).mask = (s.notices p).mask
        ∧ (t.notices p).enable = (s.notices p).enable ∧ (t.notices p).hold = (s.notices p).hold
        ∧ t.ltc.masks.get p = BitVec.allOnes 6 ∧ t.ltc.fills.get p = Fields.none
        ∧ (t.port p).faults = (s.port p).faults ∧ t.ltc.loads = s.ltc.loads
        ∧ t.ltc.chain = s.ltc.chain ∧ t.posted = s.posted
        ∧ (t.port p).broken = (if i = .portReset p then (s.port p).broken else true)
        ∧ (i = .portReset p → Replied s t p .portReset .done []))
  ∧ (∀ (s : State) (p : Port), s.phase = .running →
    exec (.rxGoneHigh p) s = .next (s.setPort p { s.port p with broken := false }))
  ∧ (∀ (s : State) (p : Port), s.phase = .running →
    exec (.clearLinkFault p) s =
      .next
        ((s.setPort p { s.port p with faults := { status := 0, first := none } }).answer p 0x07 .done
          []))
  ∧ (∀ (s : State) (p : Port) (start : Time), s.phase = .running → p ≠ .s →
    (s.port p).silence = some start → s.silenceLimit p ≠ 0 →
    s.silenceLimit p * 1000000 ≤ s.elapsed start →
      ∃ t, exec (.presenceTimerExpiry p) s = .next t
        ∧ t.port p = { s.port p with present := false, silence := none }
        ∧ t.sws = s.sws
        ∧ t.posted =
            s.posted ++ [.noticeDelivery .portPresence p.number 0, .faultRaise ⟨.portSilent, .other⟩])
  ∧ (∀ (s : State) (start : Time), s.phase = .running → (s.port .s).silence = some start →
    s.silenceLimit .s ≠ 0 → s.silenceLimit .s * 1000000 ≤ s.elapsed start →
    s.sws.stage = .delta → s.sws.aux.main = true →
      ∃ t, exec (.presenceTimerExpiry .s) s = .next t ∧ (t.port .s).present = false
        ∧ t.sws.stage = .stopping ∧ t.sws.commands = ⟨false, false, false⟩
        ∧ t.sws.lastStop = some .portSAbsent)

/-! ### Notices (chapter 10) -/

/-- R163 to R166: a notice goes to the queue of each port it is routed to, or to the pending slot of its
kind when it is held, masked or the queue is full; TAKE NOTICES removes the oldest and flushes the pending
slots, but for a port that holds, and a count out of range is MALFORMED, recorded with the frame's bytes
(sections 10.1 and 10.3, log 24); new controls replace the old and keep the queue, empty the slots of the kinds
that leave the route and, with the enable no, all of them, and flush when hold is given up or a kind leaves the
mask. -/
def Obligations.NoticesAreKept : Prop :=
  (∀ (s : State) (k : NoticeKind) (subject value : Nat) (p : Port), s.phase = .running →
    ∃ t x, exec (.noticeDelivery k subject value) s = .next t ∧ t = { s with ntu := t.ntu }
      ∧ x = { kind := k, subject := subject, value := value, time := s.clockMs : Notice }
      ∧ ((s.notices p).route.getLsbD k.number = false ∨ (s.notices p).enable = false →
          t.notices p = s.notices p)
      ∧ ((s.notices p).route.getLsbD k.number = true → (s.notices p).enable = true →
          (s.notices p).hold = false → (s.notices p).mask.getLsbD k.number = false →
          (s.notices p).queue.length < 16 →
            t.notices p = { s.notices p with queue := (s.notices p).queue ++ [x] })
      ∧ ((s.notices p).route.getLsbD k.number = true → (s.notices p).enable = true →
          ((s.notices p).hold = true ∨ (s.notices p).mask.getLsbD k.number = true
            ∨ 16 ≤ (s.notices p).queue.length) →
            (t.notices p).queue = (s.notices p).queue ∧ (t.notices p).slot k = some x))
  ∧ (∀ (s : State) (p : Port) (c : Byte), s.phase = .running → 1 ≤ c.toNat → c.toNat ≤ 4 →
    (∀ k : Fin 14, (s.notices p).slots.get k = none) →
      ∃ t taken, exec (.takeNotices p c) s = .next t ∧ taken = (s.notices p).queue.take c.toNat
        ∧ (t.notices p).queue = (s.notices p).queue.drop c.toNat
        ∧ Replied s t p .takeNotices .done (n1 taken.length ++ taken.flatMap noticeBytes))
  ∧ (∀ (s : State) (p : Port) (c : Byte) (n : NoticePort), s.phase = .running → 1 ≤ c.toNat →
    c.toNat ≤ 4 → n = s.notices p →
      ∃ t, exec (.takeNotices p c) s = .next t
        ∧ Replied s t p .takeNotices .done
            (n1 (min c.toNat n.queue.length) ++ (n.queue.take c.toNat).flatMap noticeBytes)
        ∧ (∀ q : Port, q ≠ p → t.notices q = s.notices q)
        ∧ t.notices p = { n with queue := (t.notices p).queue, slots := (t.notices p).slots }
        ∧ (n.hold = true → t.notices p = { n with queue := n.queue.drop c.toNat })
        ∧ (n.hold = false → Flushed n.slot n.mask (n.queue.drop c.toNat) (t.notices p)))
  ∧ (∀ (s : State) (p : Port) (c : Byte), s.phase = .running → (c = 0 ∨ 4 < c.toNat) →
      exec (.takeNotices p c) s =
        .next ((s.linkFault p .malformed (Instr.frame (.takeNotices p c))).answer p 0x02 .malformed []))
  ∧ (∀ (s : State) (p : Port) (e h : Byte) (on hold : Bool) (route mask : Half),
    s.phase = .running → yesNo e = some on → yesNo h = some hold →
      ∃ t, exec (.setNoticeControl p e h route mask) s = .next t
        ∧ Replied s t p .setNoticeControl .done []
        ∧ (t.notices p).enable = on ∧ (t.notices p).hold = hold
        ∧ (t.notices p).route = route.setWidth 14 ∧ (t.notices p).mask = mask.setWidth 14
        ∧ (s.notices p).queue <+: (t.notices p).queue
        ∧ (on = false → (t.notices p).queue = (s.notices p).queue
            ∧ ∀ k : Fin 14, (t.notices p).slots.get k = none))
  ∧ (∀ (s : State) (p : Port) (e h : Byte) (on hold : Bool) (route mask : Half) (n : NoticePort)
      (kept : NoticeKind → Option Notice),
    s.phase = .running → yesNo e = some on → yesNo h = some hold → n = s.notices p →
    (∀ k, kept k =
      if on = false ∨ n.route.getLsbD k.number = true ∧ route.getLsbD k.number = false then none
      else n.slot k) →
      ∃ t, exec (.setNoticeControl p e h route mask) s = .next t
        ∧ (∀ q : Port, q ≠ p → t.notices q = s.notices q)
        ∧ (on = true → hold = false →
            (n.hold = true ∨ ∃ k : NoticeKind,
              n.mask.getLsbD k.number = true ∧ mask.getLsbD k.number = false) →
              Flushed kept (mask.setWidth 14) n.queue (t.notices p))
        ∧ (on = false ∨ hold = true
            ∨ n.hold = false ∧ (∀ k : NoticeKind,
                n.mask.getLsbD k.number = true → mask.getLsbD k.number = true) →
              (t.notices p).queue = n.queue ∧ ∀ k, (t.notices p).slot k = kept k))

/-! ### Faults, settings and saves (chapter 11) -/

/-- R172, R173, R175: a raise of a clear, unmasked kind sets its status, fills an empty snapshot, with the
raiser's own values as the raise carries them and all others as they stand when the Fault Unit takes it
(DEDUCED, log 17), and gives FAULT RAISED; a masked kind only sets its status; a
kind already set changes nothing; CLEAR FAULTS clears the named statuses and a snapshot of one of them. -/
def Obligations.FaultsAreRaisedAndCleared : Prop :=
  (∀ (s : State) (k : FaultKind) (own : OwnState), s.phase ≠ .held →
    s.flu.status.getLsbD k.number = true → exec (.faultRaise ⟨k, own⟩) s = .next s)
  ∧ (∀ (s : State) (k : FaultKind) (own : OwnState) (plant : Snapshot), s.phase ≠ .held →
    s.flu.status.getLsbD k.number = false →
    plant =
      { kind := k, time := s.timebase, f := s.lnm.f, d := s.brg.d, wd := s.brg.wd
        line := s.lnm.state, reference := s.rfm.state, regulation := s.brg.state
        shed := s.shc.state, saw := s.sws.stage, latch := s.tsv.latch } →
    ∃ t, exec (.faultRaise ⟨k, own⟩) s = .next t ∧ t = { s with flu := t.flu, posted := t.posted }
      ∧ t.flu.status.getLsbD k.number = true
      ∧ (∀ j : FaultKind, j ≠ k → t.flu.status.getLsbD j.number = s.flu.status.getLsbD j.number)
      ∧ (s.settings.device.masks.getLsbD k.number = true →
          t.flu.snapshot = s.flu.snapshot ∧ t.posted = s.posted)
      ∧ (s.settings.device.masks.getLsbD k.number = false →
          t.posted = s.posted ++ [.noticeDelivery .faultRaised k.number 0]
          ∧ (∀ x, s.flu.snapshot = some x → t.flu.snapshot = some x)
          ∧ (s.flu.snapshot = none → t.flu.snapshot =
              some
                (match own with
                 | .line state f => { plant with line := state, f := f }
                 | .reference state => { plant with reference := state }
                 | .ballast state d wd => { plant with regulation := state, d := d, wd := wd }
                 | .shed state => { plant with shed := state }
                 | .saw stage => { plant with saw := stage }
                 | .turbine latch => { plant with latch := latch }
                 | .other => plant))))
  ∧ (∀ (s : State) (p : Port) (kinds : Half), s.phase = .running → p ≠ .s →
    ∃ t, exec (.clearFaults p kinds) s = .next t ∧ Replied s t p .clearFaults .done []
      ∧ (∀ j : FaultKind,
          t.flu.status.getLsbD j.number =
            (s.flu.status.getLsbD j.number && !kinds.getLsbD j.number))
      ∧ (∀ x, s.flu.snapshot = some x →
          t.flu.snapshot = if kinds.getLsbD x.kind.number then none else some x)
      ∧ t.posted = s.posted)

/-- R21, R71, R113, R154, R168: WRITE SETTING by address, ownership and value: a wrong address is
MALFORMED, a port that may not write the group is DENIED, a regulation value goes to the shadow alone, a
value out of range is clamped, and an advice band upside down is refused. What is MALFORMED or DENIED is
recorded with the frame's bytes (sections 10.1 and 10.3, log 24). -/
def Obligations.SettingsAreWritten : Prop :=
  (∀ (s : State) (p : Port) (g i x : Byte) (v : Wide), s.phase = .running →
    s.settingAt g.toNat i.toNat x.toNat = none →
      exec (.writeSetting p g i x v) s =
        .next
          ((s.linkFault p .malformed (Instr.frame (.writeSetting p g i x v))).answer p 0x11 .malformed
            []))
  ∧ (∀ (s : State) (p : Port) (g i x : Byte) (v : Wide) (was : Nat × Nat), s.phase = .running →
    s.settingAt g.toNat i.toNat x.toNat = some was → s.setupEn = false →
    ((g = 0 ∨ g = 1 ∨ g = 2) ∧ p ≠ .g ∨ g = 4 ∧ p ≠ .h ∨ g = 5) →
      exec (.writeSetting p g i x v) s =
        .next
          ((s.linkFault p .denied (Instr.frame (.writeSetting p g i x v))).answer p 0x11 .denied []))
  ∧ (∀ (s : State) (v : Wide), s.phase = .running →
    exec (.writeSetting .g 0 0 0 v) s =
      .next
        ({ s with
            brg :=
              { s.brg with
                shadow :=
                  { s.brg.shadow with
                    fSet := (max 45000 (min 55000 v.toInt)).toNat } } }.answer .g 0x11
          (if 45000 ≤ v.toInt ∧ v.toInt ≤ 55000 then .done else .clamped) []))
  ∧ (∀ (s : State) (v : Wide), s.phase = .running →
    exec (.writeSetting .g 2 0 0 v) s =
      .next
        ({ s with
            settings :=
              { s.settings with
                admission :=
                  { s.settings.admission with
                    reserve := (max 0 (min 10000 v.toInt)).toNat } } }.answer .g 0x11
          (if 0 ≤ v.toInt ∧ v.toInt ≤ 10000 then .done else .clamped) []))
  ∧ (∀ (s : State) (v : Wide), s.phase = .running → s.settings.supervision.adviceHigh < 1000 →
    (s.settings.supervision.adviceHigh : Int) < v.toInt →
      exec (.writeSetting .g 1 5 0 v) s = .next (s.answer .g 0x11 .conflict []))
  ∧ (∀ (s : State) (v : Wide), s.phase = .running → s.rtp.playing = false →
    exec (.writeSetting .h 4 0 0 v) s =
      .next
        ({ s with
            settings :=
              { s.settings with slotPeriod := (max 1 (min 240 v.toInt)).toNat } }.answer .h 0x11
          (if 1 ≤ v.toInt ∧ v.toInt ≤ 240 then .done else .clamped) []))
  ∧ (∀ (s : State) (p : Port) (v : Wide), s.phase = .running → s.setupEn = true →
    exec (.writeSetting p 5 6 0 v) s =
      .next
        ({ s with
            settings :=
              { s.settings with
                device := { s.settings.device with threshold295 := decide (0 < v.toInt) } } }.answer p
          0x11 (if 0 ≤ v.toInt ∧ v.toInt ≤ 1 then .done else .clamped) []))

/-- R170, R171: SAVE SETTINGS starts a save of the working values, or waits for a trip-area write, and is
BUSY while one waits or runs; a save that agrees replaces the image, with its CRC-16 check (over bytes whose
layout is open: log 6), and one that does not keeps the old one and raises SAVE FAILED. -/
def Obligations.SavesAreMade : Prop :=
  (∀ s : State, s.phase = .running → s.sst.save = .idle → s.tsv.mark = .clear →
    s.sst.areaWrite = none →
      exec (.saveSettings .g) s =
        .next
          ({ s with sst := { s.sst with save := .running s.timebase s.workingImage } }.answer .g 0x13
            .done []))
  ∧ (∀ (s : State) (w : AreaWrite), s.phase = .running → s.sst.save = .idle →
    s.sst.areaWrite = some w →
      exec (.saveSettings .g) s =
        .next ({ s with sst := { s.sst with save := .waiting } }.answer .g 0x13 .done []))
  ∧ (∀ s : State, s.phase = .running → s.sst.save ≠ .idle →
      exec (.saveSettings .g) s = .next (s.answer .g 0x13 .busy []))
  ∧ (∀ s : State, s.phase = .running → s.sst.save = .waiting → s.sst.areaWrite = none →
      exec .saveRunStart s =
        .next { s with sst := { s.sst with save := .running s.timebase s.workingImage } })
  ∧ (∀ (s : State) (start : Time) (d : ImageData), s.phase = .running →
    s.sst.save = .running start d → s.tsv.mark = .clear →
      exec (.saveEnd true) s =
        .next
          { s with
            sst :=
              { s.sst with
                save := .idle, image := .written d (crc16 (Config.storedBytes d.items)) }
            posted := s.posted ++ [.noticeDelivery .settingsSaved 0 0] }
      ∧ exec (.saveEnd false) s =
        .next
          { s with
            sst := { s.sst with save := .idle }
            posted :=
              s.posted ++ [.noticeDelivery .settingsSaved 0 1, .faultRaise ⟨.saveFailed, .other⟩] })
  ∧ (∀ s : State, s.workingImage.regulation = s.brg.active ∧ s.workingImage.settings = s.settings
      ∧ s.workingImage.pages = s.rtp.pages)
end

