-- ==== Sys2Proof/Laws/State.lean ====
section
/-! SUPPORT. What each named update of the state does to each field, true by computation: one lemma per
field per update, so that no later proof unfolds a record update. -/

namespace Sys2Proof.Machine

-- One declaration after another: the package as one text then needs few threads.
set_option Elab.async false

variable (s : State)

/-! An event announced. -/

@[simp] theorem State.post_timebase (i : Instr) : (s.post i).timebase = s.timebase := rfl
@[simp] theorem State.post_phase (i : Instr) : (s.post i).phase = s.phase := rfl
@[simp] theorem State.post_clockMs (i : Instr) : (s.post i).clockMs = s.clockMs := rfl
@[simp] theorem State.post_clockUs (i : Instr) : (s.post i).clockUs = s.clockUs := rfl
@[simp] theorem State.post_setupEn (i : Instr) : (s.post i).setupEn = s.setupEn := rfl
@[simp] theorem State.post_supply (i : Instr) : (s.post i).supply = s.supply := rfl
@[simp] theorem State.post_settings (i : Instr) : (s.post i).settings = s.settings := rfl
@[simp] theorem State.post_rfm (i : Instr) : (s.post i).rfm = s.rfm := rfl
@[simp] theorem State.post_lnm (i : Instr) : (s.post i).lnm = s.lnm := rfl
@[simp] theorem State.post_brg (i : Instr) : (s.post i).brg = s.brg := rfl
@[simp] theorem State.post_bfu (i : Instr) : (s.post i).bfu = s.bfu := rfl
@[simp] theorem State.post_adu (i : Instr) : (s.post i).adu = s.adu := rfl
@[simp] theorem State.post_ltc (i : Instr) : (s.post i).ltc = s.ltc := rfl
@[simp] theorem State.post_shc (i : Instr) : (s.post i).shc = s.shc := rfl
@[simp] theorem State.post_rtp (i : Instr) : (s.post i).rtp = s.rtp := rfl
@[simp] theorem State.post_sws (i : Instr) : (s.post i).sws = s.sws := rfl
@[simp] theorem State.post_tsv (i : Instr) : (s.post i).tsv = s.tsv := rfl
@[simp] theorem State.post_ports (i : Instr) : (s.post i).ports = s.ports := rfl
@[simp] theorem State.post_ntu (i : Instr) : (s.post i).ntu = s.ntu := rfl
@[simp] theorem State.post_flu (i : Instr) : (s.post i).flu = s.flu := rfl
@[simp] theorem State.post_sst (i : Instr) : (s.post i).sst = s.sst := rfl
@[simp] theorem State.post_posted (i : Instr) : (s.post i).posted = s.posted ++ [i] := rfl
@[simp] theorem State.post_draws (i : Instr) : (s.post i).draws = s.draws := rfl
@[simp] theorem State.post_pending (i : Instr) : (s.post i).pending = s.pending := rfl

/-! Events announced. -/

@[simp] theorem State.postAll_timebase (is : List Instr) : (s.postAll is).timebase = s.timebase := rfl
@[simp] theorem State.postAll_phase (is : List Instr) : (s.postAll is).phase = s.phase := rfl
@[simp] theorem State.postAll_clockMs (is : List Instr) : (s.postAll is).clockMs = s.clockMs := rfl
@[simp] theorem State.postAll_clockUs (is : List Instr) : (s.postAll is).clockUs = s.clockUs := rfl
@[simp] theorem State.postAll_setupEn (is : List Instr) : (s.postAll is).setupEn = s.setupEn := rfl
@[simp] theorem State.postAll_supply (is : List Instr) : (s.postAll is).supply = s.supply := rfl
@[simp] theorem State.postAll_settings (is : List Instr) : (s.postAll is).settings = s.settings := rfl
@[simp] theorem State.postAll_rfm (is : List Instr) : (s.postAll is).rfm = s.rfm := rfl
@[simp] theorem State.postAll_lnm (is : List Instr) : (s.postAll is).lnm = s.lnm := rfl
@[simp] theorem State.postAll_brg (is : List Instr) : (s.postAll is).brg = s.brg := rfl
@[simp] theorem State.postAll_bfu (is : List Instr) : (s.postAll is).bfu = s.bfu := rfl
@[simp] theorem State.postAll_adu (is : List Instr) : (s.postAll is).adu = s.adu := rfl
@[simp] theorem State.postAll_ltc (is : List Instr) : (s.postAll is).ltc = s.ltc := rfl
@[simp] theorem State.postAll_shc (is : List Instr) : (s.postAll is).shc = s.shc := rfl
@[simp] theorem State.postAll_rtp (is : List Instr) : (s.postAll is).rtp = s.rtp := rfl
@[simp] theorem State.postAll_sws (is : List Instr) : (s.postAll is).sws = s.sws := rfl
@[simp] theorem State.postAll_tsv (is : List Instr) : (s.postAll is).tsv = s.tsv := rfl
@[simp] theorem State.postAll_ports (is : List Instr) : (s.postAll is).ports = s.ports := rfl
@[simp] theorem State.postAll_ntu (is : List Instr) : (s.postAll is).ntu = s.ntu := rfl
@[simp] theorem State.postAll_flu (is : List Instr) : (s.postAll is).flu = s.flu := rfl
@[simp] theorem State.postAll_sst (is : List Instr) : (s.postAll is).sst = s.sst := rfl
@[simp] theorem State.postAll_posted (is : List Instr) : (s.postAll is).posted = s.posted ++ is := rfl
@[simp] theorem State.postAll_draws (is : List Instr) : (s.postAll is).draws = s.draws := rfl
@[simp] theorem State.postAll_pending (is : List Instr) : (s.postAll is).pending = s.pending := rfl

/-! A notice given. -/

@[simp] theorem State.notice_timebase (k : NoticeKind) (a b : Nat) :
    (s.notice k a b).timebase = s.timebase :=
  rfl
@[simp] theorem State.notice_phase (k : NoticeKind) (a b : Nat) : (s.notice k a b).phase = s.phase := rfl
@[simp] theorem State.notice_clockMs (k : NoticeKind) (a b : Nat) :
    (s.notice k a b).clockMs = s.clockMs :=
  rfl
@[simp] theorem State.notice_clockUs (k : NoticeKind) (a b : Nat) :
    (s.notice k a b).clockUs = s.clockUs :=
  rfl
@[simp] theorem State.notice_setupEn (k : NoticeKind) (a b : Nat) :
    (s.notice k a b).setupEn = s.setupEn :=
  rfl
@[simp] theorem State.notice_supply (k : NoticeKind) (a b : Nat) : (s.notice k a b).supply = s.supply := rfl
@[simp] theorem State.notice_settings (k : NoticeKind) (a b : Nat) :
    (s.notice k a b).settings = s.settings :=
  rfl
@[simp] theorem State.notice_rfm (k : NoticeKind) (a b : Nat) : (s.notice k a b).rfm = s.rfm := rfl
@[simp] theorem State.notice_lnm (k : NoticeKind) (a b : Nat) : (s.notice k a b).lnm = s.lnm := rfl
@[simp] theorem State.notice_brg (k : NoticeKind) (a b : Nat) : (s.notice k a b).brg = s.brg := rfl
@[simp] theorem State.notice_bfu (k : NoticeKind) (a b : Nat) : (s.notice k a b).bfu = s.bfu := rfl
@[simp] theorem State.notice_adu (k : NoticeKind) (a b : Nat) : (s.notice k a b).adu = s.adu := rfl
@[simp] theorem State.notice_ltc (k : NoticeKind) (a b : Nat) : (s.notice k a b).ltc = s.ltc := rfl
@[simp] theorem State.notice_shc (k : NoticeKind) (a b : Nat) : (s.notice k a b).shc = s.shc := rfl
@[simp] theorem State.notice_rtp (k : NoticeKind) (a b : Nat) : (s.notice k a b).rtp = s.rtp := rfl
@[simp] theorem State.notice_sws (k : NoticeKind) (a b : Nat) : (s.notice k a b).sws = s.sws := rfl
@[simp] theorem State.notice_tsv (k : NoticeKind) (a b : Nat) : (s.notice k a b).tsv = s.tsv := rfl
@[simp] theorem State.notice_ports (k : NoticeKind) (a b : Nat) : (s.notice k a b).ports = s.ports := rfl
@[simp] theorem State.notice_ntu (k : NoticeKind) (a b : Nat) : (s.notice k a b).ntu = s.ntu := rfl
@[simp] theorem State.notice_flu (k : NoticeKind) (a b : Nat) : (s.notice k a b).flu = s.flu := rfl
@[simp] theorem State.notice_sst (k : NoticeKind) (a b : Nat) : (s.notice k a b).sst = s.sst := rfl
@[simp] theorem State.notice_posted (k : NoticeKind) (a b : Nat) :
    (s.notice k a b).posted = s.posted ++ [.noticeDelivery k a b] :=
  rfl
@[simp] theorem State.notice_draws (k : NoticeKind) (a b : Nat) : (s.notice k a b).draws = s.draws := rfl
@[simp] theorem State.notice_pending (k : NoticeKind) (a b : Nat) :
    (s.notice k a b).pending = s.pending :=
  rfl

/-! A fault raised. -/

@[simp] theorem State.raise_timebase (k : FaultKind) : (s.raise k).timebase = s.timebase := rfl
@[simp] theorem State.raise_phase (k : FaultKind) : (s.raise k).phase = s.phase := rfl
@[simp] theorem State.raise_clockMs (k : FaultKind) : (s.raise k).clockMs = s.clockMs := rfl
@[simp] theorem State.raise_clockUs (k : FaultKind) : (s.raise k).clockUs = s.clockUs := rfl
@[simp] theorem State.raise_setupEn (k : FaultKind) : (s.raise k).setupEn = s.setupEn := rfl
@[simp] theorem State.raise_supply (k : FaultKind) : (s.raise k).supply = s.supply := rfl
@[simp] theorem State.raise_settings (k : FaultKind) : (s.raise k).settings = s.settings := rfl
@[simp] theorem State.raise_rfm (k : FaultKind) : (s.raise k).rfm = s.rfm := rfl
@[simp] theorem State.raise_lnm (k : FaultKind) : (s.raise k).lnm = s.lnm := rfl
@[simp] theorem State.raise_brg (k : FaultKind) : (s.raise k).brg = s.brg := rfl
@[simp] theorem State.raise_bfu (k : FaultKind) : (s.raise k).bfu = s.bfu := rfl
@[simp] theorem State.raise_adu (k : FaultKind) : (s.raise k).adu = s.adu := rfl
@[simp] theorem State.raise_ltc (k : FaultKind) : (s.raise k).ltc = s.ltc := rfl
@[simp] theorem State.raise_shc (k : FaultKind) : (s.raise k).shc = s.shc := rfl
@[simp] theorem State.raise_rtp (k : FaultKind) : (s.raise k).rtp = s.rtp := rfl
@[simp] theorem State.raise_sws (k : FaultKind) : (s.raise k).sws = s.sws := rfl
@[simp] theorem State.raise_tsv (k : FaultKind) : (s.raise k).tsv = s.tsv := rfl
@[simp] theorem State.raise_ports (k : FaultKind) : (s.raise k).ports = s.ports := rfl
@[simp] theorem State.raise_ntu (k : FaultKind) : (s.raise k).ntu = s.ntu := rfl
@[simp] theorem State.raise_flu (k : FaultKind) : (s.raise k).flu = s.flu := rfl
@[simp] theorem State.raise_sst (k : FaultKind) : (s.raise k).sst = s.sst := rfl
@[simp] theorem State.raise_posted (k : FaultKind) :
    (s.raise k).posted = s.posted ++ [.faultRaise ⟨k, s.ownOf k⟩] :=
  rfl
@[simp] theorem State.raise_draws (k : FaultKind) : (s.raise k).draws = s.draws := rfl
@[simp] theorem State.raise_pending (k : FaultKind) : (s.raise k).pending = s.pending := rfl

/-! A stop given to the Sequencer. -/

@[simp] theorem State.stopSaw_timebase (c : LoadTableStop) : (s.stopSaw c).timebase = s.timebase := rfl
@[simp] theorem State.stopSaw_phase (c : LoadTableStop) : (s.stopSaw c).phase = s.phase := rfl
@[simp] theorem State.stopSaw_clockMs (c : LoadTableStop) : (s.stopSaw c).clockMs = s.clockMs := rfl
@[simp] theorem State.stopSaw_clockUs (c : LoadTableStop) : (s.stopSaw c).clockUs = s.clockUs := rfl
@[simp] theorem State.stopSaw_setupEn (c : LoadTableStop) : (s.stopSaw c).setupEn = s.setupEn := rfl
@[simp] theorem State.stopSaw_supply (c : LoadTableStop) : (s.stopSaw c).supply = s.supply := rfl
@[simp] theorem State.stopSaw_settings (c : LoadTableStop) : (s.stopSaw c).settings = s.settings := rfl
@[simp] theorem State.stopSaw_rfm (c : LoadTableStop) : (s.stopSaw c).rfm = s.rfm := rfl
@[simp] theorem State.stopSaw_lnm (c : LoadTableStop) : (s.stopSaw c).lnm = s.lnm := rfl
@[simp] theorem State.stopSaw_brg (c : LoadTableStop) : (s.stopSaw c).brg = s.brg := rfl
@[simp] theorem State.stopSaw_bfu (c : LoadTableStop) : (s.stopSaw c).bfu = s.bfu := rfl
@[simp] theorem State.stopSaw_adu (c : LoadTableStop) : (s.stopSaw c).adu = s.adu := rfl
@[simp] theorem State.stopSaw_ltc (c : LoadTableStop) : (s.stopSaw c).ltc = s.ltc := rfl
@[simp] theorem State.stopSaw_shc (c : LoadTableStop) : (s.stopSaw c).shc = s.shc := rfl
@[simp] theorem State.stopSaw_rtp (c : LoadTableStop) : (s.stopSaw c).rtp = s.rtp := rfl
@[simp] theorem State.stopSaw_sws (c : LoadTableStop) : (s.stopSaw c).sws = s.sws := rfl
@[simp] theorem State.stopSaw_tsv (c : LoadTableStop) : (s.stopSaw c).tsv = s.tsv := rfl
@[simp] theorem State.stopSaw_ports (c : LoadTableStop) : (s.stopSaw c).ports = s.ports := rfl
@[simp] theorem State.stopSaw_ntu (c : LoadTableStop) : (s.stopSaw c).ntu = s.ntu := rfl
@[simp] theorem State.stopSaw_flu (c : LoadTableStop) : (s.stopSaw c).flu = s.flu := rfl
@[simp] theorem State.stopSaw_sst (c : LoadTableStop) : (s.stopSaw c).sst = s.sst := rfl
@[simp] theorem State.stopSaw_posted (c : LoadTableStop) :
    (s.stopSaw c).posted = s.posted ++ [.stopFromLoadTable c] :=
  rfl
@[simp] theorem State.stopSaw_draws (c : LoadTableStop) : (s.stopSaw c).draws = s.draws := rfl
@[simp] theorem State.stopSaw_pending (c : LoadTableStop) : (s.stopSaw c).pending = s.pending := rfl

/-! An entry's record replaced. -/

@[simp] theorem State.setLoad_timebase (e : Entry) (l : Load) : (s.setLoad e l).timebase = s.timebase := rfl
@[simp] theorem State.setLoad_phase (e : Entry) (l : Load) : (s.setLoad e l).phase = s.phase := rfl
@[simp] theorem State.setLoad_clockMs (e : Entry) (l : Load) : (s.setLoad e l).clockMs = s.clockMs := rfl
@[simp] theorem State.setLoad_clockUs (e : Entry) (l : Load) : (s.setLoad e l).clockUs = s.clockUs := rfl
@[simp] theorem State.setLoad_setupEn (e : Entry) (l : Load) : (s.setLoad e l).setupEn = s.setupEn := rfl
@[simp] theorem State.setLoad_supply (e : Entry) (l : Load) : (s.setLoad e l).supply = s.supply := rfl
@[simp] theorem State.setLoad_settings (e : Entry) (l : Load) : (s.setLoad e l).settings = s.settings := rfl
@[simp] theorem State.setLoad_rfm (e : Entry) (l : Load) : (s.setLoad e l).rfm = s.rfm := rfl
@[simp] theorem State.setLoad_lnm (e : Entry) (l : Load) : (s.setLoad e l).lnm = s.lnm := rfl
@[simp] theorem State.setLoad_brg (e : Entry) (l : Load) : (s.setLoad e l).brg = s.brg := rfl
@[simp] theorem State.setLoad_bfu (e : Entry) (l : Load) : (s.setLoad e l).bfu = s.bfu := rfl
@[simp] theorem State.setLoad_adu (e : Entry) (l : Load) : (s.setLoad e l).adu = s.adu := rfl
@[simp] theorem State.setLoad_ltc (e : Entry) (l : Load) :
    (s.setLoad e l).ltc = { s.ltc with loads := s.ltc.loads.set e.val l } :=
  rfl
@[simp] theorem State.setLoad_shc (e : Entry) (l : Load) : (s.setLoad e l).shc = s.shc := rfl
@[simp] theorem State.setLoad_rtp (e : Entry) (l : Load) : (s.setLoad e l).rtp = s.rtp := rfl
@[simp] theorem State.setLoad_sws (e : Entry) (l : Load) : (s.setLoad e l).sws = s.sws := rfl
@[simp] theorem State.setLoad_tsv (e : Entry) (l : Load) : (s.setLoad e l).tsv = s.tsv := rfl
@[simp] theorem State.setLoad_ports (e : Entry) (l : Load) : (s.setLoad e l).ports = s.ports := rfl
@[simp] theorem State.setLoad_ntu (e : Entry) (l : Load) : (s.setLoad e l).ntu = s.ntu := rfl
@[simp] theorem State.setLoad_flu (e : Entry) (l : Load) : (s.setLoad e l).flu = s.flu := rfl
@[simp] theorem State.setLoad_sst (e : Entry) (l : Load) : (s.setLoad e l).sst = s.sst := rfl
@[simp] theorem State.setLoad_posted (e : Entry) (l : Load) : (s.setLoad e l).posted = s.posted := rfl
@[simp] theorem State.setLoad_draws (e : Entry) (l : Load) : (s.setLoad e l).draws = s.draws := rfl
@[simp] theorem State.setLoad_pending (e : Entry) (l : Load) : (s.setLoad e l).pending = s.pending := rfl

/-! A move of an entry. -/

@[simp] theorem State.moveEntry_timebase (e : Entry) (d : EntryState) (c : MoveCause) :
    (s.moveEntry e d c).timebase = s.timebase :=
  rfl
@[simp] theorem State.moveEntry_phase (e : Entry) (d : EntryState) (c : MoveCause) :
    (s.moveEntry e d c).phase = s.phase :=
  rfl
@[simp] theorem State.moveEntry_clockMs (e : Entry) (d : EntryState) (c : MoveCause) :
    (s.moveEntry e d c).clockMs = s.clockMs :=
  rfl
@[simp] theorem State.moveEntry_clockUs (e : Entry) (d : EntryState) (c : MoveCause) :
    (s.moveEntry e d c).clockUs = s.clockUs :=
  rfl
@[simp] theorem State.moveEntry_setupEn (e : Entry) (d : EntryState) (c : MoveCause) :
    (s.moveEntry e d c).setupEn = s.setupEn :=
  rfl
@[simp] theorem State.moveEntry_supply (e : Entry) (d : EntryState) (c : MoveCause) :
    (s.moveEntry e d c).supply = s.supply :=
  rfl
@[simp] theorem State.moveEntry_settings (e : Entry) (d : EntryState) (c : MoveCause) :
    (s.moveEntry e d c).settings = s.settings :=
  rfl
@[simp] theorem State.moveEntry_rfm (e : Entry) (d : EntryState) (c : MoveCause) :
    (s.moveEntry e d c).rfm = s.rfm :=
  rfl
@[simp] theorem State.moveEntry_lnm (e : Entry) (d : EntryState) (c : MoveCause) :
    (s.moveEntry e d c).lnm = s.lnm :=
  rfl
@[simp] theorem State.moveEntry_brg (e : Entry) (d : EntryState) (c : MoveCause) :
    (s.moveEntry e d c).brg = s.brg :=
  rfl
@[simp] theorem State.moveEntry_bfu (e : Entry) (d : EntryState) (c : MoveCause) :
    (s.moveEntry e d c).bfu = s.bfu :=
  rfl
@[simp] theorem State.moveEntry_adu (e : Entry) (d : EntryState) (c : MoveCause) :
    (s.moveEntry e d c).adu = s.admissionAfterMove e d :=
  rfl
@[simp] theorem State.moveEntry_rtp (e : Entry) (d : EntryState) (c : MoveCause) :
    (s.moveEntry e d c).rtp = s.rtp :=
  rfl
@[simp] theorem State.moveEntry_sws (e : Entry) (d : EntryState) (c : MoveCause) :
    (s.moveEntry e d c).sws = s.sws :=
  rfl
@[simp] theorem State.moveEntry_tsv (e : Entry) (d : EntryState) (c : MoveCause) :
    (s.moveEntry e d c).tsv = s.tsv :=
  rfl
@[simp] theorem State.moveEntry_ports (e : Entry) (d : EntryState) (c : MoveCause) :
    (s.moveEntry e d c).ports = s.ports :=
  rfl
@[simp] theorem State.moveEntry_ntu (e : Entry) (d : EntryState) (c : MoveCause) :
    (s.moveEntry e d c).ntu = s.ntu :=
  rfl
@[simp] theorem State.moveEntry_flu (e : Entry) (d : EntryState) (c : MoveCause) :
    (s.moveEntry e d c).flu = s.flu :=
  rfl
@[simp] theorem State.moveEntry_sst (e : Entry) (d : EntryState) (c : MoveCause) :
    (s.moveEntry e d c).sst = s.sst :=
  rfl
@[simp] theorem State.moveEntry_posted (e : Entry) (d : EntryState) (c : MoveCause) :
    (s.moveEntry e d c).posted = s.posted ++ [.noticeDelivery .entryChanged e.val (d.number + 16 * c.number)] :=
  rfl
@[simp] theorem State.moveEntry_draws (e : Entry) (d : EntryState) (c : MoveCause) :
    (s.moveEntry e d c).draws = s.draws :=
  rfl
@[simp] theorem State.moveEntry_pending (e : Entry) (d : EntryState) (c : MoveCause) :
    (s.moveEntry e d c).pending = s.pending :=
  rfl

/-! A port replaced. -/

@[simp] theorem State.setPort_timebase (p : Port) (l : PortLink) :
    (s.setPort p l).timebase = s.timebase :=
  rfl
@[simp] theorem State.setPort_phase (p : Port) (l : PortLink) : (s.setPort p l).phase = s.phase := rfl
@[simp] theorem State.setPort_clockMs (p : Port) (l : PortLink) : (s.setPort p l).clockMs = s.clockMs := rfl
@[simp] theorem State.setPort_clockUs (p : Port) (l : PortLink) : (s.setPort p l).clockUs = s.clockUs := rfl
@[simp] theorem State.setPort_setupEn (p : Port) (l : PortLink) : (s.setPort p l).setupEn = s.setupEn := rfl
@[simp] theorem State.setPort_supply (p : Port) (l : PortLink) : (s.setPort p l).supply = s.supply := rfl
@[simp] theorem State.setPort_settings (p : Port) (l : PortLink) :
    (s.setPort p l).settings = s.settings :=
  rfl
@[simp] theorem State.setPort_rfm (p : Port) (l : PortLink) : (s.setPort p l).rfm = s.rfm := rfl
@[simp] theorem State.setPort_lnm (p : Port) (l : PortLink) : (s.setPort p l).lnm = s.lnm := rfl
@[simp] theorem State.setPort_brg (p : Port) (l : PortLink) : (s.setPort p l).brg = s.brg := rfl
@[simp] theorem State.setPort_bfu (p : Port) (l : PortLink) : (s.setPort p l).bfu = s.bfu := rfl
@[simp] theorem State.setPort_adu (p : Port) (l : PortLink) : (s.setPort p l).adu = s.adu := rfl
@[simp] theorem State.setPort_ltc (p : Port) (l : PortLink) : (s.setPort p l).ltc = s.ltc := rfl
@[simp] theorem State.setPort_shc (p : Port) (l : PortLink) : (s.setPort p l).shc = s.shc := rfl
@[simp] theorem State.setPort_rtp (p : Port) (l : PortLink) : (s.setPort p l).rtp = s.rtp := rfl
@[simp] theorem State.setPort_sws (p : Port) (l : PortLink) : (s.setPort p l).sws = s.sws := rfl
@[simp] theorem State.setPort_tsv (p : Port) (l : PortLink) : (s.setPort p l).tsv = s.tsv := rfl
@[simp] theorem State.setPort_ports (p : Port) (l : PortLink) :
    (s.setPort p l).ports = s.ports.set p l :=
  rfl
@[simp] theorem State.setPort_ntu (p : Port) (l : PortLink) : (s.setPort p l).ntu = s.ntu := rfl
@[simp] theorem State.setPort_flu (p : Port) (l : PortLink) : (s.setPort p l).flu = s.flu := rfl
@[simp] theorem State.setPort_sst (p : Port) (l : PortLink) : (s.setPort p l).sst = s.sst := rfl
@[simp] theorem State.setPort_posted (p : Port) (l : PortLink) : (s.setPort p l).posted = s.posted := rfl
@[simp] theorem State.setPort_draws (p : Port) (l : PortLink) : (s.setPort p l).draws = s.draws := rfl
@[simp] theorem State.setPort_pending (p : Port) (l : PortLink) : (s.setPort p l).pending = s.pending := rfl

/-! The notices of a port replaced. -/

@[simp] theorem State.setNotices_timebase (p : Port) (n : NoticePort) :
    (s.setNotices p n).timebase = s.timebase :=
  rfl
@[simp] theorem State.setNotices_phase (p : Port) (n : NoticePort) :
    (s.setNotices p n).phase = s.phase :=
  rfl
@[simp] theorem State.setNotices_clockMs (p : Port) (n : NoticePort) :
    (s.setNotices p n).clockMs = s.clockMs :=
  rfl
@[simp] theorem State.setNotices_clockUs (p : Port) (n : NoticePort) :
    (s.setNotices p n).clockUs = s.clockUs :=
  rfl
@[simp] theorem State.setNotices_setupEn (p : Port) (n : NoticePort) :
    (s.setNotices p n).setupEn = s.setupEn :=
  rfl
@[simp] theorem State.setNotices_supply (p : Port) (n : NoticePort) :
    (s.setNotices p n).supply = s.supply :=
  rfl
@[simp] theorem State.setNotices_settings (p : Port) (n : NoticePort) :
    (s.setNotices p n).settings = s.settings :=
  rfl
@[simp] theorem State.setNotices_rfm (p : Port) (n : NoticePort) : (s.setNotices p n).rfm = s.rfm := rfl
@[simp] theorem State.setNotices_lnm (p : Port) (n : NoticePort) : (s.setNotices p n).lnm = s.lnm := rfl
@[simp] theorem State.setNotices_brg (p : Port) (n : NoticePort) : (s.setNotices p n).brg = s.brg := rfl
@[simp] theorem State.setNotices_bfu (p : Port) (n : NoticePort) : (s.setNotices p n).bfu = s.bfu := rfl
@[simp] theorem State.setNotices_adu (p : Port) (n : NoticePort) : (s.setNotices p n).adu = s.adu := rfl
@[simp] theorem State.setNotices_ltc (p : Port) (n : NoticePort) : (s.setNotices p n).ltc = s.ltc := rfl
@[simp] theorem State.setNotices_shc (p : Port) (n : NoticePort) : (s.setNotices p n).shc = s.shc := rfl
@[simp] theorem State.setNotices_rtp (p : Port) (n : NoticePort) : (s.setNotices p n).rtp = s.rtp := rfl
@[simp] theorem State.setNotices_sws (p : Port) (n : NoticePort) : (s.setNotices p n).sws = s.sws := rfl
@[simp] theorem State.setNotices_tsv (p : Port) (n : NoticePort) : (s.setNotices p n).tsv = s.tsv := rfl
@[simp] theorem State.setNotices_ports (p : Port) (n : NoticePort) :
    (s.setNotices p n).ports = s.ports :=
  rfl
@[simp] theorem State.setNotices_ntu (p : Port) (n : NoticePort) :
    (s.setNotices p n).ntu = s.ntu.set p n :=
  rfl
@[simp] theorem State.setNotices_flu (p : Port) (n : NoticePort) : (s.setNotices p n).flu = s.flu := rfl
@[simp] theorem State.setNotices_sst (p : Port) (n : NoticePort) : (s.setNotices p n).sst = s.sst := rfl
@[simp] theorem State.setNotices_posted (p : Port) (n : NoticePort) :
    (s.setNotices p n).posted = s.posted :=
  rfl
@[simp] theorem State.setNotices_draws (p : Port) (n : NoticePort) :
    (s.setNotices p n).draws = s.draws :=
  rfl
@[simp] theorem State.setNotices_pending (p : Port) (n : NoticePort) :
    (s.setNotices p n).pending = s.pending :=
  rfl

/-! A link fault. -/

@[simp] theorem State.linkFault_timebase (p : Port) (k : LinkKind) (f : List Byte) :
    (s.linkFault p k f).timebase = s.timebase :=
  rfl
@[simp] theorem State.linkFault_phase (p : Port) (k : LinkKind) (f : List Byte) :
    (s.linkFault p k f).phase = s.phase :=
  rfl
@[simp] theorem State.linkFault_clockMs (p : Port) (k : LinkKind) (f : List Byte) :
    (s.linkFault p k f).clockMs = s.clockMs :=
  rfl
@[simp] theorem State.linkFault_clockUs (p : Port) (k : LinkKind) (f : List Byte) :
    (s.linkFault p k f).clockUs = s.clockUs :=
  rfl
@[simp] theorem State.linkFault_setupEn (p : Port) (k : LinkKind) (f : List Byte) :
    (s.linkFault p k f).setupEn = s.setupEn :=
  rfl
@[simp] theorem State.linkFault_supply (p : Port) (k : LinkKind) (f : List Byte) :
    (s.linkFault p k f).supply = s.supply :=
  rfl
@[simp] theorem State.linkFault_settings (p : Port) (k : LinkKind) (f : List Byte) :
    (s.linkFault p k f).settings = s.settings :=
  rfl
@[simp] theorem State.linkFault_rfm (p : Port) (k : LinkKind) (f : List Byte) :
    (s.linkFault p k f).rfm = s.rfm :=
  rfl
@[simp] theorem State.linkFault_lnm (p : Port) (k : LinkKind) (f : List Byte) :
    (s.linkFault p k f).lnm = s.lnm :=
  rfl
@[simp] theorem State.linkFault_brg (p : Port) (k : LinkKind) (f : List Byte) :
    (s.linkFault p k f).brg = s.brg :=
  rfl
@[simp] theorem State.linkFault_bfu (p : Port) (k : LinkKind) (f : List Byte) :
    (s.linkFault p k f).bfu = s.bfu :=
  rfl
@[simp] theorem State.linkFault_adu (p : Port) (k : LinkKind) (f : List Byte) :
    (s.linkFault p k f).adu = s.adu :=
  rfl
@[simp] theorem State.linkFault_ltc (p : Port) (k : LinkKind) (f : List Byte) :
    (s.linkFault p k f).ltc = s.ltc :=
  rfl
@[simp] theorem State.linkFault_shc (p : Port) (k : LinkKind) (f : List Byte) :
    (s.linkFault p k f).shc = s.shc :=
  rfl
@[simp] theorem State.linkFault_rtp (p : Port) (k : LinkKind) (f : List Byte) :
    (s.linkFault p k f).rtp = s.rtp :=
  rfl
@[simp] theorem State.linkFault_sws (p : Port) (k : LinkKind) (f : List Byte) :
    (s.linkFault p k f).sws = s.sws :=
  rfl
@[simp] theorem State.linkFault_tsv (p : Port) (k : LinkKind) (f : List Byte) :
    (s.linkFault p k f).tsv = s.tsv :=
  rfl
@[simp] theorem State.linkFault_ntu (p : Port) (k : LinkKind) (f : List Byte) :
    (s.linkFault p k f).ntu = s.ntu :=
  rfl
@[simp] theorem State.linkFault_flu (p : Port) (k : LinkKind) (f : List Byte) :
    (s.linkFault p k f).flu = s.flu :=
  rfl
@[simp] theorem State.linkFault_sst (p : Port) (k : LinkKind) (f : List Byte) :
    (s.linkFault p k f).sst = s.sst :=
  rfl
@[simp] theorem State.linkFault_posted (p : Port) (k : LinkKind) (f : List Byte) :
    (s.linkFault p k f).posted = s.posted :=
  rfl
@[simp] theorem State.linkFault_draws (p : Port) (k : LinkKind) (f : List Byte) :
    (s.linkFault p k f).draws = s.draws :=
  rfl
@[simp] theorem State.linkFault_pending (p : Port) (k : LinkKind) (f : List Byte) :
    (s.linkFault p k f).pending = s.pending :=
  rfl

/-! A response formed. -/

@[simp] theorem State.answer_timebase (p : Port) (c : Byte) (r : Result) (d : List Byte) :
    (s.answer p c r d).timebase = s.timebase :=
  rfl
@[simp] theorem State.answer_phase (p : Port) (c : Byte) (r : Result) (d : List Byte) :
    (s.answer p c r d).phase = s.phase :=
  rfl
@[simp] theorem State.answer_clockMs (p : Port) (c : Byte) (r : Result) (d : List Byte) :
    (s.answer p c r d).clockMs = s.clockMs :=
  rfl
@[simp] theorem State.answer_clockUs (p : Port) (c : Byte) (r : Result) (d : List Byte) :
    (s.answer p c r d).clockUs = s.clockUs :=
  rfl
@[simp] theorem State.answer_setupEn (p : Port) (c : Byte) (r : Result) (d : List Byte) :
    (s.answer p c r d).setupEn = s.setupEn :=
  rfl
@[simp] theorem State.answer_supply (p : Port) (c : Byte) (r : Result) (d : List Byte) :
    (s.answer p c r d).supply = s.supply :=
  rfl
@[simp] theorem State.answer_settings (p : Port) (c : Byte) (r : Result) (d : List Byte) :
    (s.answer p c r d).settings = s.settings :=
  rfl
@[simp] theorem State.answer_rfm (p : Port) (c : Byte) (r : Result) (d : List Byte) :
    (s.answer p c r d).rfm = s.rfm :=
  rfl
@[simp] theorem State.answer_lnm (p : Port) (c : Byte) (r : Result) (d : List Byte) :
    (s.answer p c r d).lnm = s.lnm :=
  rfl
@[simp] theorem State.answer_brg (p : Port) (c : Byte) (r : Result) (d : List Byte) :
    (s.answer p c r d).brg = s.brg :=
  rfl
@[simp] theorem State.answer_bfu (p : Port) (c : Byte) (r : Result) (d : List Byte) :
    (s.answer p c r d).bfu = s.bfu :=
  rfl
@[simp] theorem State.answer_adu (p : Port) (c : Byte) (r : Result) (d : List Byte) :
    (s.answer p c r d).adu = s.adu :=
  rfl
@[simp] theorem State.answer_ltc (p : Port) (c : Byte) (r : Result) (d : List Byte) :
    (s.answer p c r d).ltc = s.ltc :=
  rfl
@[simp] theorem State.answer_shc (p : Port) (c : Byte) (r : Result) (d : List Byte) :
    (s.answer p c r d).shc = s.shc :=
  rfl
@[simp] theorem State.answer_rtp (p : Port) (c : Byte) (r : Result) (d : List Byte) :
    (s.answer p c r d).rtp = s.rtp :=
  rfl
@[simp] theorem State.answer_sws (p : Port) (c : Byte) (r : Result) (d : List Byte) :
    (s.answer p c r d).sws = s.sws :=
  rfl
@[simp] theorem State.answer_tsv (p : Port) (c : Byte) (r : Result) (d : List Byte) :
    (s.answer p c r d).tsv = s.tsv :=
  rfl
@[simp] theorem State.answer_ntu (p : Port) (c : Byte) (r : Result) (d : List Byte) :
    (s.answer p c r d).ntu = s.ntu :=
  rfl
@[simp] theorem State.answer_flu (p : Port) (c : Byte) (r : Result) (d : List Byte) :
    (s.answer p c r d).flu = s.flu :=
  rfl
@[simp] theorem State.answer_sst (p : Port) (c : Byte) (r : Result) (d : List Byte) :
    (s.answer p c r d).sst = s.sst :=
  rfl
@[simp] theorem State.answer_posted (p : Port) (c : Byte) (r : Result) (d : List Byte) :
    (s.answer p c r d).posted = s.posted :=
  rfl
@[simp] theorem State.answer_draws (p : Port) (c : Byte) (r : Result) (d : List Byte) :
    (s.answer p c r d).draws = s.draws :=
  rfl
@[simp] theorem State.answer_pending (p : Port) (c : Byte) (r : Result) (d : List Byte) :
    (s.answer p c r d).pending = s.pending :=
  rfl

/-! A free value used. -/

@[simp] theorem State.draw_timebase : s.draw.timebase = s.timebase := rfl
@[simp] theorem State.draw_phase : s.draw.phase = s.phase := rfl
@[simp] theorem State.draw_clockMs : s.draw.clockMs = s.clockMs := rfl
@[simp] theorem State.draw_clockUs : s.draw.clockUs = s.clockUs := rfl
@[simp] theorem State.draw_setupEn : s.draw.setupEn = s.setupEn := rfl
@[simp] theorem State.draw_supply : s.draw.supply = s.supply := rfl
@[simp] theorem State.draw_settings : s.draw.settings = s.settings := rfl
@[simp] theorem State.draw_rfm : s.draw.rfm = s.rfm := rfl
@[simp] theorem State.draw_lnm : s.draw.lnm = s.lnm := rfl
@[simp] theorem State.draw_brg : s.draw.brg = s.brg := rfl
@[simp] theorem State.draw_bfu : s.draw.bfu = s.bfu := rfl
@[simp] theorem State.draw_adu : s.draw.adu = s.adu := rfl
@[simp] theorem State.draw_ltc : s.draw.ltc = s.ltc := rfl
@[simp] theorem State.draw_shc : s.draw.shc = s.shc := rfl
@[simp] theorem State.draw_rtp : s.draw.rtp = s.rtp := rfl
@[simp] theorem State.draw_sws : s.draw.sws = s.sws := rfl
@[simp] theorem State.draw_tsv : s.draw.tsv = s.tsv := rfl
@[simp] theorem State.draw_ports : s.draw.ports = s.ports := rfl
@[simp] theorem State.draw_ntu : s.draw.ntu = s.ntu := rfl
@[simp] theorem State.draw_flu : s.draw.flu = s.flu := rfl
@[simp] theorem State.draw_sst : s.draw.sst = s.sst := rfl
@[simp] theorem State.draw_posted : s.draw.posted = s.posted := rfl
@[simp] theorem State.draw_draws : s.draw.draws = s.draws + 1 := rfl
@[simp] theorem State.draw_pending : s.draw.pending = s.pending := rfl

/-! ALARM judged. -/

@[simp] theorem State.judgeAlarm_timebase : s.judgeAlarm.timebase = s.timebase := rfl
@[simp] theorem State.judgeAlarm_phase : s.judgeAlarm.phase = s.phase := rfl
@[simp] theorem State.judgeAlarm_clockMs : s.judgeAlarm.clockMs = s.clockMs := rfl
@[simp] theorem State.judgeAlarm_clockUs : s.judgeAlarm.clockUs = s.clockUs := rfl
@[simp] theorem State.judgeAlarm_setupEn : s.judgeAlarm.setupEn = s.setupEn := rfl
@[simp] theorem State.judgeAlarm_supply : s.judgeAlarm.supply = s.supply := rfl
@[simp] theorem State.judgeAlarm_settings : s.judgeAlarm.settings = s.settings := rfl
@[simp] theorem State.judgeAlarm_rfm : s.judgeAlarm.rfm = s.rfm := rfl
@[simp] theorem State.judgeAlarm_lnm : s.judgeAlarm.lnm = s.lnm := rfl
@[simp] theorem State.judgeAlarm_brg : s.judgeAlarm.brg = s.brg := rfl
@[simp] theorem State.judgeAlarm_bfu : s.judgeAlarm.bfu = s.bfu := rfl
@[simp] theorem State.judgeAlarm_adu : s.judgeAlarm.adu = s.adu := rfl
@[simp] theorem State.judgeAlarm_ltc : s.judgeAlarm.ltc = s.ltc := rfl
@[simp] theorem State.judgeAlarm_shc : s.judgeAlarm.shc = s.shc := rfl
@[simp] theorem State.judgeAlarm_rtp : s.judgeAlarm.rtp = s.rtp := rfl
@[simp] theorem State.judgeAlarm_sws : s.judgeAlarm.sws = s.sws := rfl
@[simp] theorem State.judgeAlarm_tsv : s.judgeAlarm.tsv = s.tsv := rfl
@[simp] theorem State.judgeAlarm_ports : s.judgeAlarm.ports = s.ports := rfl
@[simp] theorem State.judgeAlarm_ntu : s.judgeAlarm.ntu = s.ntu := rfl
@[simp] theorem State.judgeAlarm_sst : s.judgeAlarm.sst = s.sst := rfl
@[simp] theorem State.judgeAlarm_posted : s.judgeAlarm.posted = s.posted := rfl
@[simp] theorem State.judgeAlarm_draws : s.judgeAlarm.draws = s.draws := rfl
@[simp] theorem State.judgeAlarm_pending : s.judgeAlarm.pending = s.pending := rfl

/-! The device settings replaced. -/

@[simp] theorem State.setDevice_timebase (d : DeviceSettings) : (s.setDevice d).timebase = s.timebase := rfl
@[simp] theorem State.setDevice_phase (d : DeviceSettings) : (s.setDevice d).phase = s.phase := rfl
@[simp] theorem State.setDevice_clockMs (d : DeviceSettings) : (s.setDevice d).clockMs = s.clockMs := rfl
@[simp] theorem State.setDevice_clockUs (d : DeviceSettings) : (s.setDevice d).clockUs = s.clockUs := rfl
@[simp] theorem State.setDevice_setupEn (d : DeviceSettings) : (s.setDevice d).setupEn = s.setupEn := rfl
@[simp] theorem State.setDevice_supply (d : DeviceSettings) : (s.setDevice d).supply = s.supply := rfl
@[simp] theorem State.setDevice_settings (d : DeviceSettings) :
    (s.setDevice d).settings = { s.settings with device := d } :=
  rfl
@[simp] theorem State.setDevice_rfm (d : DeviceSettings) : (s.setDevice d).rfm = s.rfm := rfl
@[simp] theorem State.setDevice_lnm (d : DeviceSettings) : (s.setDevice d).lnm = s.lnm := rfl
@[simp] theorem State.setDevice_brg (d : DeviceSettings) : (s.setDevice d).brg = s.brg := rfl
@[simp] theorem State.setDevice_bfu (d : DeviceSettings) : (s.setDevice d).bfu = s.bfu := rfl
@[simp] theorem State.setDevice_adu (d : DeviceSettings) : (s.setDevice d).adu = s.adu := rfl
@[simp] theorem State.setDevice_ltc (d : DeviceSettings) : (s.setDevice d).ltc = s.ltc := rfl
@[simp] theorem State.setDevice_shc (d : DeviceSettings) : (s.setDevice d).shc = s.shc := rfl
@[simp] theorem State.setDevice_rtp (d : DeviceSettings) : (s.setDevice d).rtp = s.rtp := rfl
@[simp] theorem State.setDevice_sws (d : DeviceSettings) : (s.setDevice d).sws = s.sws := rfl
@[simp] theorem State.setDevice_tsv (d : DeviceSettings) : (s.setDevice d).tsv = s.tsv := rfl
@[simp] theorem State.setDevice_ports (d : DeviceSettings) : (s.setDevice d).ports = s.ports := rfl
@[simp] theorem State.setDevice_ntu (d : DeviceSettings) : (s.setDevice d).ntu = s.ntu := rfl
@[simp] theorem State.setDevice_flu (d : DeviceSettings) : (s.setDevice d).flu = s.flu := rfl
@[simp] theorem State.setDevice_sst (d : DeviceSettings) : (s.setDevice d).sst = s.sst := rfl
@[simp] theorem State.setDevice_posted (d : DeviceSettings) : (s.setDevice d).posted = s.posted := rfl
@[simp] theorem State.setDevice_draws (d : DeviceSettings) : (s.setDevice d).draws = s.draws := rfl
@[simp] theorem State.setDevice_pending (d : DeviceSettings) : (s.setDevice d).pending = s.pending := rfl

/-! The queue replaced. -/

@[simp] theorem State.withPending_timebase (q : List Instr) : (s.withPending q).timebase = s.timebase := rfl
@[simp] theorem State.withPending_phase (q : List Instr) : (s.withPending q).phase = s.phase := rfl
@[simp] theorem State.withPending_clockMs (q : List Instr) : (s.withPending q).clockMs = s.clockMs := rfl
@[simp] theorem State.withPending_clockUs (q : List Instr) : (s.withPending q).clockUs = s.clockUs := rfl
@[simp] theorem State.withPending_setupEn (q : List Instr) : (s.withPending q).setupEn = s.setupEn := rfl
@[simp] theorem State.withPending_supply (q : List Instr) : (s.withPending q).supply = s.supply := rfl
@[simp] theorem State.withPending_settings (q : List Instr) : (s.withPending q).settings = s.settings := rfl
@[simp] theorem State.withPending_rfm (q : List Instr) : (s.withPending q).rfm = s.rfm := rfl
@[simp] theorem State.withPending_lnm (q : List Instr) : (s.withPending q).lnm = s.lnm := rfl
@[simp] theorem State.withPending_brg (q : List Instr) : (s.withPending q).brg = s.brg := rfl
@[simp] theorem State.withPending_bfu (q : List Instr) : (s.withPending q).bfu = s.bfu := rfl
@[simp] theorem State.withPending_adu (q : List Instr) : (s.withPending q).adu = s.adu := rfl
@[simp] theorem State.withPending_ltc (q : List Instr) : (s.withPending q).ltc = s.ltc := rfl
@[simp] theorem State.withPending_shc (q : List Instr) : (s.withPending q).shc = s.shc := rfl
@[simp] theorem State.withPending_rtp (q : List Instr) : (s.withPending q).rtp = s.rtp := rfl
@[simp] theorem State.withPending_sws (q : List Instr) : (s.withPending q).sws = s.sws := rfl
@[simp] theorem State.withPending_tsv (q : List Instr) : (s.withPending q).tsv = s.tsv := rfl
@[simp] theorem State.withPending_ports (q : List Instr) : (s.withPending q).ports = s.ports := rfl
@[simp] theorem State.withPending_ntu (q : List Instr) : (s.withPending q).ntu = s.ntu := rfl
@[simp] theorem State.withPending_flu (q : List Instr) : (s.withPending q).flu = s.flu := rfl
@[simp] theorem State.withPending_sst (q : List Instr) : (s.withPending q).sst = s.sst := rfl
@[simp] theorem State.withPending_posted (q : List Instr) : (s.withPending q).posted = s.posted := rfl
@[simp] theorem State.withPending_draws (q : List Instr) : (s.withPending q).draws = s.draws := rfl
@[simp] theorem State.withPending_pending (q : List Instr) : (s.withPending q).pending = q := rfl

end Sys2Proof.Machine
end

