-- ==== Sys2Proof/Laws/Tables.lean ====
section
/-! SUPPORT. Reading back what was written: one of three ports, contactors or banks, and one of sixteen
load entries; what a move does to the entry moved and to the others; and a walk over the entries. -/

namespace Sys2Proof

-- One declaration after another: the package as one text then needs few threads.
set_option Elab.async false

@[simp] theorem PerPort.get_set_same {α : Type} (v : PerPort α) (p : Port) (x : α) :
    (v.set p x).get p = x := by cases p <;> rfl

theorem PerPort.get_set_other {α : Type} (v : PerPort α) {p q : Port} (x : α) (h : q ≠ p) :
    (v.set p x).get q = v.get q := by
  cases p <;> cases q <;> first | rfl | exact absurd rfl h

@[simp] theorem PerContactor.get_set_same {α : Type} (v : PerContactor α) (k : Contactor) (x : α) :
    (v.set k x).get k = x := by cases k <;> rfl

theorem PerContactor.get_set_other {α : Type} (v : PerContactor α) {k j : Contactor} (x : α)
    (h : j ≠ k) : (v.set k x).get j = v.get j := by
  cases k <;> cases j <;> first | rfl | exact absurd rfl h

namespace Machine

/-! ### Vectors -/

theorem vector_get_set_same {α : Type} {n : Nat} (v : Vector α n) (i : Fin n) (x : α) :
    (v.set i.val x).get i = x := by simp [Vector.get_eq_getElem]

theorem vector_get_set_other {α : Type} {n : Nat} (v : Vector α n) {i j : Fin n} (x : α)
    (h : j ≠ i) : (v.set i.val x).get j = v.get j := by
  have h' : i.val ≠ j.val := fun e => h (Fin.ext e.symm)
  simp [Vector.get_eq_getElem, Vector.getElem_set_ne _ _ h']

/-! ### Ports and notices -/

@[simp] theorem port_setPort_same (s : State) (p : Port) (l : PortLink) : (s.setPort p l).port p = l :=
  PerPort.get_set_same _ _ _

theorem port_setPort_other (s : State) {p q : Port} (l : PortLink) (h : q ≠ p) :
    (s.setPort p l).port q = s.port q := PerPort.get_set_other _ _ h

@[simp] theorem notices_setNotices_same (s : State) (p : Port) (n : NoticePort) :
    (s.setNotices p n).notices p = n := PerPort.get_set_same _ _ _

theorem notices_setNotices_other (s : State) {p q : Port} (n : NoticePort) (h : q ≠ p) :
    (s.setNotices p n).notices q = s.notices q := PerPort.get_set_other _ _ h

@[simp] theorem notices_setPort (s : State) (p q : Port) (l : PortLink) :
    (s.setPort p l).notices q = s.notices q := rfl

@[simp] theorem port_post (s : State) (p : Port) (i : Instr) : (s.post i).port p = s.port p := rfl

@[simp] theorem notices_post (s : State) (p : Port) (i : Instr) : (s.post i).notices p = s.notices p :=
  rfl

/-! ### Load entries -/

@[simp] theorem load_post (s : State) (e : Entry) (i : Instr) : (s.post i).load e = s.load e := rfl

@[simp] theorem load_setPort (s : State) (e : Entry) (p : Port) (l : PortLink) :
    (s.setPort p l).load e = s.load e := rfl

@[simp] theorem load_setLoad_same (s : State) (e : Entry) (l : Load) : (s.setLoad e l).load e = l :=
  vector_get_set_same _ _ _

theorem load_setLoad_other (s : State) {e x : Entry} (l : Load) (h : x ≠ e) :
    (s.setLoad e l).load x = s.load x := vector_get_set_other _ _ h

/-- A move gives the entry its new state and the wanted field that goes with it (section 5.2). -/
@[simp] theorem load_moveEntry_same (s : State) (e : Entry) (d : EntryState) (c : MoveCause) :
    (s.moveEntry e d c).load e =
      { s.load e with
        state := d, fields := { (s.load e).fields with wanted := decide (d ≠ .off) } } :=
  vector_get_set_same _ _ _

/-- A move of one entry leaves every other entry. -/
theorem load_moveEntry_other (s : State) {e x : Entry} (d : EntryState) (c : MoveCause) (h : x ≠ e) :
    (s.moveEntry e d c).load x = s.load x := vector_get_set_other _ _ h

@[simp] theorem entryState_moveEntry_same (s : State) (e : Entry) (d : EntryState) (c : MoveCause) :
    (s.moveEntry e d c).entryState e = d := by simp [State.entryState]

theorem entryState_moveEntry_other (s : State) {e x : Entry} (d : EntryState) (c : MoveCause)
    (h : x ≠ e) : (s.moveEntry e d c).entryState x = s.entryState x := by
  simp [State.entryState, load_moveEntry_other s d c h]

/-- The relay of an entry moved: closed in RESERVED and ON, never for the saw (R73). -/
@[simp] theorem relay_moveEntry_same (s : State) (e : Entry) (d : EntryState) (c : MoveCause) :
    (s.moveEntry e d c).ltc.relays.get e = (d.energised && decide (e ≠ sawEntry)) :=
  vector_get_set_same _ _ _

theorem relay_moveEntry_other (s : State) {e x : Entry} (d : EntryState) (c : MoveCause) (h : x ≠ e) :
    (s.moveEntry e d c).ltc.relays.get x = s.ltc.relays.get x := vector_get_set_other _ _ h

@[simp] theorem chain_moveEntry (s : State) (e : Entry) (d : EntryState) (c : MoveCause) :
    (s.moveEntry e d c).ltc.chain = s.ltc.chain := rfl

@[simp] theorem shedState_moveEntry (s : State) (e : Entry) (d : EntryState) (c : MoveCause) :
    (s.moveEntry e d c).shc.state = s.shc.state := rfl

/-- A move takes the entry off the shed stack when it was SHED for UNDERFREQUENCY (R101). -/
theorem stack_moveEntry (s : State) (e : Entry) (d : EntryState) (c : MoveCause) :
    (s.moveEntry e d c).shc.stack =
      if s.entryState e = .shedUnderfrequency then s.shc.stack.erase e else s.shc.stack := rfl

/-- An entry moved out of a state that holds no place in the Admission Unit, and not to WAITING, leaves
that unit as it is. -/
theorem adu_moveEntry_idle (s : State) (e : Entry) (d : EntryState) (c : MoveCause)
    (h : s.entryState e ∈ [EntryState.off, .on, .shedUnderfrequency, .shedLineLoss, .rotaOff])
    (hd : d ≠ .waiting) : (s.moveEntry e d c).adu = s.adu := by
  simp only [List.mem_cons, List.not_mem_nil, or_false] at h
  cases d <;> rcases h with h | h | h | h | h <;>
    first
    | exact absurd rfl hd
    | simp [State.admissionAfterMove, h]

/-! ### Walks over the entries -/

theorem mem_all (e : Entry) : e ∈ Entry.all := by revert e; decide

theorem nodup_all : Entry.all.Nodup := by decide

/-- A property kept by each act is kept by the walk. -/
theorem forEntries_keeps (P : State → Prop) (test : State → Entry → Bool) (act : State → Entry → State)
    (hact : ∀ s e, P s → test s e = true → P (act s e)) (s : State) (h : P s) :
    P (s.forEntries test act) := by
  suffices H : ∀ (es : List Entry) (s : State), P s →
      P (es.foldl (fun s e => if test s e then act s e else s) s) from H _ s h
  intro es
  induction es with
  | nil => exact fun _ h => h
  | cons e es ih =>
    intro s h
    apply ih
    by_cases ht : test s e = true
    · simpa [ht] using hact s e h ht
    · simpa [ht] using h

/-- A walk that judges each entry by its own record and changes that record alone leaves every entry as
the judgment of its own record says. -/
theorem load_forEntries (test : State → Entry → Bool) (act : State → Entry → State)
    (T : Entry → Load → Bool) (A : Entry → Load → Load) (P : State → Prop)
    (hP : ∀ s e, P s → P (act s e)) (ht : ∀ s e, P s → test s e = T e (s.load e))
    (ha : ∀ s e, P s → (act s e).load e = A e (s.load e))
    (ho : ∀ s e x, P s → x ≠ e → (act s e).load x = s.load x) (s : State) (h : P s) (e : Entry) :
    (s.forEntries test act).load e = if T e (s.load e) then A e (s.load e) else s.load e := by
  suffices H : ∀ (es : List Entry) (s : State), es.Nodup → P s → ∀ e,
      (es.foldl (fun s e => if test s e then act s e else s) s).load e =
        if e ∈ es then (if T e (s.load e) then A e (s.load e) else s.load e) else s.load e by
    have := H Entry.all s nodup_all h e
    rwa [if_pos (mem_all e)] at this
  intro es
  induction es with
  | nil => intro s _ _ e; simp
  | cons x xs ih =>
    intro s hn h e
    obtain ⟨hx, hn⟩ := List.nodup_cons.mp hn
    have h' : P (if test s x then act s x else s) := by split <;> [exact hP s x h; exact h]
    have := ih _ hn h' e
    simp only [List.foldl_cons]
    rw [this]
    by_cases hex : e = x
    · subst hex
      simp only [hx, if_false, List.mem_cons, true_or, if_true, ← ht s e h]
      split <;> [exact ha s e h; rfl]
    · have hl : (if test s x then act s x else s).load e = s.load e := by
        split <;> [exact ho s x e h hex; rfl]
      simp [hl, hex]

end Machine
end Sys2Proof
end

