-- ==== Sys2Proof/Laws/Requests.lean ====
section
/-! SUPPORT. The shared operation by which a request is taken: what it answers when its owner takes it,
when its port is denied, and before start-up completes; and the port as an answer leaves it. -/

namespace Sys2Proof.Machine

-- One declaration after another: the package as one text then needs few threads.
set_option Elab.async false

@[simp] theorem whenRunning_running (s : State) (act : State → State) (h : s.phase = .running) :
    s.whenRunning act = act s := by simp [State.whenRunning, h]

theorem whenRunning_not (s : State) (act : State → State) (h : s.phase ≠ .running) :
    s.whenRunning act = s := by simp [State.whenRunning, h]

@[simp] theorem whenReleased_released (s : State) (act : State → State) (h : s.phase ≠ .held) :
    s.whenReleased act = act s := by simp [State.whenReleased, h]

/-- The port of an answer: its response formed, all else as it was. -/
@[simp] theorem port_answer_same (s : State) (p : Port) (c : Byte) (r : Result) (d : List Byte) :
    (s.answer p c r d).port p =
      { s.port p with
        tx := .ready (s.requestTime p)
          { code := c, result := r, waiting := (s.notices p).queue.length, data := d } } :=
  PerPort.get_set_same _ _ _

theorem port_answer_other (s : State) {p q : Port} (c : Byte) (r : Result) (d : List Byte)
    (h : q ≠ p) : (s.answer p c r d).port q = s.port q := PerPort.get_set_other _ _ h

@[simp] theorem notices_answer (s : State) (p q : Port) (c : Byte) (r : Result) (d : List Byte) :
    (s.answer p c r d).notices q = s.notices q := rfl

@[simp] theorem load_answer (s : State) (p : Port) (c : Byte) (r : Result) (d : List Byte) (e : Entry) :
    (s.answer p c r d).load e = s.load e := rfl

@[simp] theorem port_linkFault_same (s : State) (p : Port) (k : LinkKind) (f : List Byte) :
    (s.linkFault p k f).port p = { s.port p with faults := (s.port p).faults.record k f } :=
  PerPort.get_set_same _ _ _

theorem port_linkFault_other (s : State) {p q : Port} (k : LinkKind) (f : List Byte) (h : q ≠ p) :
    (s.linkFault p k f).port q = s.port q := PerPort.get_set_other _ _ h

@[simp] theorem requestTime_linkFault (s : State) (p : Port) (k : LinkKind) (f : List Byte) :
    (s.linkFault p k f).requestTime p = s.requestTime p := by
  simp only [State.requestTime, port_linkFault_same]; rfl

/-- A request its owner takes with a result that is no link fault. -/
theorem request_taken (s : State) (n : RequestName) (i : Instr) (p : Port) (body : State → Taking)
    (hs : s.serves n p) (hm : (body s).2.1 ≠ .malformed) (hd : (body s).2.1 ≠ .denied) :
    s.request n i p body = (body s).1.answer p n.code (body s).2.1 (body s).2.2 := by
  unfold State.request
  rw [whenRunning_running s _ hs.1]
  simp only [hs.2, if_true]

/-- A request its owner answers MALFORMED or DENIED: the link fault with the frame, and the answer. -/
theorem request_faulted (s : State) (n : RequestName) (i : Instr) (p : Port) (body : State → Taking)
    (hs : s.serves n p) :
    ((body s).2.1 = .malformed →
      s.request n i p body =
        ((body s).1.linkFault p .malformed i.frame).answer p n.code .malformed (body s).2.2)
    ∧ ((body s).2.1 = .denied →
      s.request n i p body =
        ((body s).1.linkFault p .denied i.frame).answer p n.code .denied (body s).2.2) := by
  constructor <;> intro h <;> simp [State.request, State.whenRunning, hs.1, hs.2, h]

/-- A request of a port the catalogue does not permit (R156 step 3). -/
theorem request_denied (s : State) (n : RequestName) (i : Instr) (p : Port) (body : State → Taking)
    (h : s.phase = .running) (hp : n.permits p (s.setupAt p) = false) :
    s.request n i p body = (s.linkFault p .denied i.frame).answer p n.code .denied [] := by
  simp [State.request, State.whenRunning, h, hp]

/-- Before start-up completes a request changes nothing (R162). -/
theorem request_before (s : State) (n : RequestName) (i : Instr) (p : Port) (body : State → Taking)
    (h : s.phase ≠ .running) : s.request n i p body = s := whenRunning_not s _ h

/-- What every taken request leaves on its port: its own response, with the request's time, when its
owner leaves the port's response side alone. -/
theorem replied_request (s : State) (n : RequestName) (i : Instr) (p : Port) (body : State → Taking)
    (hs : s.serves n p) (ht : (body s).1.requestTime p = s.requestTime p) :
    Replied s (s.request n i p body) p n (body s).2.1 (body s).2.2 := by
  unfold Replied State.request
  rw [whenRunning_running s _ hs.1]
  simp only [hs.2, if_true]
  cases h : (body s).2.1 <;>
    simp only [port_answer_same, notices_answer, requestTime_linkFault, ht]

/-- The first error of a link fault record is kept by later link faults (R159). -/
theorem record_keeps_first (f : LinkFaults) (k : LinkKind) (b : List Byte) (x : LinkKind × List Byte)
    (h : f.first = some x) : (f.record k b).first = some x := by simp [LinkFaults.record, h]

end Sys2Proof.Machine
end

