-- ==== Sys2Proof/Laws/Blocks.lean ====
section
/-! SUPPORT. What each shared operation of the other blocks can do, once: stops and faults of the saw,
releases at the Admission Unit, raises and alarm, trips, notices, and ports. -/

namespace Sys2Proof.Machine

-- One declaration after another: the package as one text then needs few threads.
set_option Elab.async false

/-! ### Saw Sequencer -/

/-- A saw at rest, stopping or faulted takes a stop without a change (R131). -/
theorem stop_rest (s : State) (c : SawCause) (h : s.sws.stage ∈ [SawStage.off, .stopping, .fault]) :
    s.stop c = s := by
  simp only [List.mem_cons, List.not_mem_nil, or_false] at h
  rcases h with h | h | h <;> simp [State.stop, h]

/-- A running saw with an auxiliary closed takes a stop into SAW STOPPING (R131, R132). -/
theorem stop_running (s : State) (c : SawCause) (h : s.sws.stage ∈ [SawStage.star, .changeover, .delta])
    (ha : s.sws.auxOpen = false) :
    s.stop c =
      s.changeStage
        { s.sws with
          stage := .stopping, commands := allOpen, checks := noChecks, dwell := none, dead := none
          stopping := some s.timebase, lastStop := some c, opened := noneOpened } c := by
  simp only [List.mem_cons, List.not_mem_nil, or_false] at h
  simp only [Saw.auxOpen] at ha
  rcases h with h | h | h <;> simp [State.stop, h, Saw.auxOpen, ha]

/-- A saw in SAW WAITING takes a stop to SAW OFF at once (R131). -/
theorem stop_waiting (s : State) (c : SawCause) (h : s.sws.stage = .waiting) :
    s.stop c = s.reachOff { s.sws with lastStop := some c } c := by simp [State.stop, h]

/-- With nothing displaced, the return of displaced entries changes nothing (R67). -/
theorem returnDisplaced_none (s : State) (h : s.adu.displaced = []) : s.returnDisplaced = s := by
  unfold State.returnDisplaced
  simp only [h, List.foldl_nil]
  rw [show ({ s.adu with displaced := [] } : Admission) = s.adu by rw [← h]]

/-- Entry to SAW FAULT: contactors open, timers stopped, latch and record set, and the notice, the
raise with the stage it has entered and the report announced (R130, R175). -/
theorem enterSawFault_eq (s : State) (k : Contactor) (kind : SawFaultKind) (c : SawCause) :
    s.enterSawFault k kind c =
      { s with
        sws :=
          { s.sws with
            stage := .fault, commands := allOpen, checks := noChecks, dwell := none, dead := none
            stopping := none, latch := true
            record := some { contactor := k, kind := kind, stage := s.sws.stage, time := s.timebase } }
        posted :=
          s.posted
            ++ [.noticeDelivery .sawStage 14 (6 + 16 * c.number),
              .faultRaise ⟨.sawContactor, .saw .fault⟩, .sawStoppedReport] } := by
  simp only [State.enterSawFault, State.changeStage, State.raise, State.notice, State.post,
    List.append_assoc, List.cons_append, List.nil_append]
  rfl

/-- The changeover is completed only in SAW CHANGEOVER with the dead time over and AUX_STAR open
(R127). -/
theorem completeChangeover_not (s : State)
    (h : s.sws.stage ≠ .changeover ∨ s.sws.dead ≠ none ∨ s.sws.aux.star = true) :
    s.completeChangeover = s := by
  unfold State.completeChangeover
  rw [if_neg]
  rintro ⟨h1, h2, h3⟩
  rcases h with h | h | h
  · exact h h1
  · exact h h2
  · rw [h3] at h; exact Bool.noConfusion h

/-- Before the saw wait has run out its expiry changes nothing (R68). -/
theorem expireSawWait_not (s : State) (h : s.sawWaitDue = false) : s.expireSawWait = s := by
  simp [State.expireSawWait, h]

/-- A saw marked refused is never due again (R68). -/
theorem sawWaitDue_refused (s : State) : s.refuseSaw.sawWaitDue = false := by
  unfold State.sawWaitDue State.sawWait State.refuseSaw State.ranOut
  cases s.adu.saw <;> simp

/-- An examination finds the whole queue while no saw wait has expired (R68). -/
theorem examined_all (s : State) (h : s.sawRefused = false) : s.examined = s.adu.queue := by
  simp [State.examined, h]

/-! ### Admission Unit -/

/-- No record arrives, so none is released (R58). -/
theorem arrivals_none (s : State) (wd : Nat) (h : ∀ r ∈ s.adu.table, hasArrived wd r = false) :
    s.arrivals wd = s := by
  have : s.adu.table.filter (hasArrived wd) = [] := List.filter_eq_nil_iff.mpr (by simpa using h)
  simp [State.arrivals, this]

/-- The record placed is in the table, with all the others. -/
theorem mem_insertRecord (r x : Reservation) (t : List Reservation) :
    x ∈ insertRecord r t ↔ x = r ∨ x ∈ t := by
  induction t with
  | nil => simp [insertRecord]
  | cons y ys ih => unfold insertRecord; split <;> simp [ih, or_left_comm]

/-- The watts held grow by the record placed (R54). -/
theorem held_insertRecord (r : Reservation) (t : List Reservation) :
    heldWatts (insertRecord r t) = r.watts + heldWatts t := by
  induction t with
  | nil => simp [insertRecord, heldWatts]
  | cons y ys ih =>
    unfold insertRecord
    split
    · simp [heldWatts]
    · simp only [heldWatts, List.map_cons, List.sum_cons] at *; omega

/-- An essential entry goes in among the others without loss or repeat (R61). -/
theorem mem_insertAfterLast (test : Entry → Bool) (e x : Entry) (l : List Entry) :
    x ∈ insertAfterLast test e l ↔ x = e ∨ x ∈ l := by
  induction l with
  | nil => simp [insertAfterLast]
  | cons y ys ih => unfold insertAfterLast; split <;> simp [ih, or_left_comm]

/-- The queue with an entry inserted holds that entry and the others (R61). -/
theorem mem_queueWith (s : State) (q : List Entry) (e x : Entry) (b : Bool) :
    x ∈ s.queueWith q e b ↔ x = e ∨ x ∈ q := by
  unfold State.queueWith
  split
  · exact mem_insertAfterLast _ _ _ _
  · simp [or_comm]

/-! ### Load table -/

/-- A write that does not touch the essential field of an entry makes its move and no requeue (R86). -/
theorem writeConsequences_same (s : State) (e : Entry) (old : Fields)
    (h : ((s.writeMove e old).load e).fields.essential = old.essential) :
    s.writeConsequences e old = s.writeMove e old := by
  simp [State.writeConsequences, h]

/-! ### Shed Controller -/

/-- A record of its own taken up by the Shed Controller: SHED STATE is given when the state changes (R108). -/
theorem changeShed_eq (s : State) (c : Shed) :
    s.changeShed c =
      { s with
        shc := c
        posted :=
          s.posted
            ++ (if c.state = s.shc.state then [] else [.noticeDelivery .shedState 0 c.state.number]) } := by
  unfold State.changeShed
  simp only [State.notice, State.post]
  split <;> simp

/-! ### Faults and trips -/

/-- A raise of a kind that is set changes nothing (R172). -/
theorem takeRaise_set (s : State) (x : FaultRaise)
    (h : s.flu.status.getLsbD x.kind.number = true) : s.takeRaise x = s := by simp [State.takeRaise, h]

/-- A raise touches the Fault Unit and the announcements only. -/
theorem takeRaise_frame (s : State) (x : FaultRaise) :
    s.takeRaise x = { s with flu := (s.takeRaise x).flu, posted := (s.takeRaise x).posted } := by
  unfold State.takeRaise
  split
  · rfl
  · simp only; split <;> rfl

/-- A raise of a kind that is clear: its status set, the snapshot taken when it is unmasked and empty, ALARM
judged, and FAULT RAISED given when it is unmasked (R172, R174, R175). -/
theorem takeRaise_clear (s : State) (x : FaultRaise)
    (h : s.flu.status.getLsbD x.kind.number = false) :
    s.takeRaise x =
      { s with
        flu :=
          { status := s.flu.status ||| faultBit x.kind
            snapshot :=
              if !s.settings.device.masks.getLsbD x.kind.number && s.flu.snapshot.isNone then
                some (s.snapshotOf x)
              else s.flu.snapshot
            alarm :=
              alarmOutput (s.flu.status ||| faultBit x.kind) s.settings.device.masks
                s.settings.device.alarms }
        posted :=
          s.posted
            ++ (if s.settings.device.masks.getLsbD x.kind.number then []
                else [.noticeDelivery .faultRaised x.kind.number 0]) } := by
  unfold State.takeRaise
  simp only [h, Bool.false_eq_true, if_false]
  cases s.settings.device.masks.getLsbD x.kind.number <;>
    simp [State.judgeAlarm, State.notice, State.post]

/-- A trip with the latch clear, at the Turbine Supervisor (R143). -/
theorem tripWith_clear (s : State) (c : TripCause) (f : Nat) (h : s.tsv.latch = false) :
    (s.tripWith c f).tsv =
      { s.tsv with
        latch := true, runPermit := false
        record := some { cause := c, time := s.timebase, f := f }
        reference := .since s.timebase, mark := .pending, direction := .tripped, excess := 0 } := by
  unfold State.tripWith State.setAdvice
  simp only [h, Bool.false_eq_true, if_false]
  split <;> rfl

/-- A trip with the latch set raises the fault again and does nothing else (R143). -/
theorem tripWith_set (s : State) (c : TripCause) (f : Nat) (h : s.tsv.latch = true) :
    s.tripWith c f = s.raise .overspeedTrip := by simp [State.tripWith, h]

/-- A trip sets the latch and drops RUN_PERMIT, whatever its cause (R143). -/
theorem tripWith_latch (s : State) (c : TripCause) (f : Nat) : (s.tripWith c f).tsv.latch = true := by
  unfold State.tripWith State.setAdvice
  split
  · assumption
  · simp only; split <;> rfl

/-- A trip touches the Turbine Supervisor and the announcements only. -/
theorem tripWith_frame (s : State) (c : TripCause) (f : Nat) :
    s.tripWith c f = { s with tsv := (s.tripWith c f).tsv, posted := (s.tripWith c f).posted } := by
  unfold State.tripWith State.setAdvice
  split
  · rfl
  · simp only; split <;> rfl

/-- The advice set: direction and excess, and GATE ADVICE when the direction changes (R150). -/
theorem setAdvice_eq (s : State) (d : Direction) (x : Int) :
    s.setAdvice d x =
      { s with
        tsv := { s.tsv with direction := d, excess := x }
        posted :=
          s.posted
            ++ (if d = s.tsv.direction then [] else [.noticeDelivery .gateAdvice 0 d.number]) } := by
  unfold State.setAdvice; simp only [State.notice, State.post]; split <;> simp

/-- The advice of an A: the band tests and the excess over the middle (R150). -/
theorem adviceOf_some (low high x : Nat) :
    adviceOf low high (some x) =
      (if high < (x + 8) / 16 then .closeGate else if (x + 8) / 16 < low then .openGate else .hold,
        (((x + 8) / 16 : Nat) : Int) - ((low + high) / 2 : Nat)) := by
  have h : (roundNearest x 16).toNat = (x + 8) / 16 := by unfold roundNearest; split <;> omega
  simp [adviceOf, h]

/-- The advice count at a record (R150). -/
theorem countAdvice_eq (s : State) :
    s.countAdvice =
      if s.tsv.adviceCount + 1 = 100 ∧ s.tsv.latch = false then
        { s with tsv := { s.tsv with adviceCount := 0 } }.setAdvice s.computedAdvice.1 s.computedAdvice.2
      else
        { s with
          tsv :=
            { s.tsv with
              adviceCount := if s.tsv.adviceCount + 1 = 100 then 0 else s.tsv.adviceCount + 1 } } := by
  unfold State.countAdvice
  by_cases h : s.tsv.adviceCount + 1 = 100 <;> cases hl : s.tsv.latch <;> simp [h, hl, State.computedAdvice]

/-- The slip window at a record: opened, counted, or judged and opened again (R151). -/
theorem countWindow_eq (s : State) :
    s.countWindow =
      if s.settings.supervision.k100 = 0 then s
      else if s.tsv.windowOpen = false then s.openWindow
      else if s.tsv.windowRecords + 1 = 100 then s.judgeWindow.openWindow
      else { s with tsv := { s.tsv with windowRecords := s.tsv.windowRecords + 1 } } := by
  unfold State.countWindow
  cases s.tsv.windowOpen <;> simp

/-- The judgement of a window: its strikes, and BELT SLIP at the third (R151). -/
theorem judgeWindow_eq (s : State) (strike : Bool)
    (h : strike = isStrike s.tsv.windowPulses s.settings.supervision.k100 s.settings.supervision.slipLimit) :
    s.judgeWindow =
      { s with
        tsv :=
          { s.tsv with strikes := if strike = true ∧ s.tsv.strikes + 1 ≠ 3 then s.tsv.strikes + 1 else 0 }
        posted :=
          s.posted
            ++ (if strike = true ∧ s.tsv.strikes + 1 = 3 then
                  [.faultRaise ⟨.beltSlip, .turbine s.tsv.latch⟩] else []) } := by
  unfold State.judgeWindow
  rw [← h]
  cases strike <;> by_cases h3 : s.tsv.strikes + 1 = 3 <;>
    simp [h3, State.raise, State.post, State.ownOf]

/-! ### Store -/

/-- What a save has written is what the load finds (R169, R170). -/
@[simp] theorem stored_contents (d : ImageData) : d.stored.contents = some d := by
  simp [ImageData.stored, Image.contents]

/-- What an area write has written is what the load finds (R146). -/
@[simp] theorem areaStored_contents (w : AreaWrite) : w.stored.contents = some (w.latch, w.record) := by
  simp [AreaWrite.stored, TripArea.contents]

/-! ### Notices -/

@[simp] theorem slot_setSlot_same (n : NoticePort) (k : NoticeKind) (x : Option Notice) :
    (n.setSlot k x).slot k = x := by
  simp [NoticePort.setSlot, NoticePort.slot, Vector.get_eq_getElem]

theorem slot_setSlot_other (n : NoticePort) {k j : NoticeKind} (x : Option Notice) (h : j ≠ k) :
    (n.setSlot k x).slot j = n.slot j := by
  have h' : k.number % 14 ≠ j.number % 14 := by
    intro e; apply h; revert e; cases j <;> cases k <;> decide
  simp [NoticePort.setSlot, NoticePort.slot, Vector.get_eq_getElem, Vector.getElem_set_ne _ _ h']

@[simp] theorem queue_setSlot (n : NoticePort) (k : NoticeKind) (x : Option Notice) :
    (n.setSlot k x).queue = n.queue := rfl

/-- A delivery adds at most one record to the queue, never above 16 (R163). -/
theorem deliver_queue (n : NoticePort) (x : Notice) :
    (n.deliver x).queue = n.queue
      ∨ (n.deliver x).queue = n.queue ++ [x] ∧ n.queue.length < 16 := by
  unfold NoticePort.deliver
  split
  · exact .inl rfl
  · split
    · next h =>
      simp only [Bool.and_eq_true] at h
      exact .inr ⟨rfl, of_decide_eq_true h.2⟩
    · exact .inl rfl

/-- One pending slot at a flush adds at most one record, never above 16 (R164). -/
theorem flushSlot_queue (n : NoticePort) (k : NoticeKind) :
    n.queue <+: (flushSlot n k).queue
      ∧ (n.queue.length ≤ 16 → (flushSlot n k).queue.length ≤ 16) := by
  unfold flushSlot
  split
  · split
    · next h =>
      simp only [Bool.and_eq_true] at h
      have hl : n.queue.length < 16 := of_decide_eq_true h.2
      refine ⟨List.prefix_append _ _, fun _ => ?_⟩
      simp only [queue_setSlot, List.length_append, List.length_cons, List.length_nil]
      omega
    · exact ⟨List.prefix_refl _, id⟩
  · exact ⟨List.prefix_refl _, id⟩

/-- A flush keeps the queue as the beginning of the new one, and its bound (R164). -/
theorem flush_queue (n : NoticePort) :
    n.queue <+: n.flush.queue ∧ (n.queue.length ≤ 16 → n.flush.queue.length ≤ 16) := by
  have H : ∀ (ks : List NoticeKind) (n : NoticePort),
      n.queue <+: (ks.foldl flushSlot n).queue
        ∧ (n.queue.length ≤ 16 → (ks.foldl flushSlot n).queue.length ≤ 16) := by
    intro ks
    induction ks with
    | nil => exact fun n => ⟨List.prefix_refl _, id⟩
    | cons k ks ih =>
      intro n
      obtain ⟨h1, h2⟩ := flushSlot_queue n k
      obtain ⟨h3, h4⟩ := ih (flushSlot n k)
      exact ⟨h1.trans h3, fun h => h4 (h2 h)⟩
  unfold NoticePort.flush
  split
  · exact ⟨List.prefix_refl _, id⟩
  · exact H _ _

/-- The slots of a list of kinds, each once, flushed one after another (R164). -/
theorem foldl_flushSlot (ks : List NoticeKind) (hk : ks.Nodup) (n : NoticePort) :
    let moved :=
      (ks.filter fun k => (n.slot k).isSome && !n.mask.getLsbD k.number).take (16 - n.queue.length)
    let m := ks.foldl flushSlot n
    m = { n with queue := n.queue ++ moved.filterMap n.slot, slots := m.slots }
      ∧ ∀ k, m.slot k = if k ∈ moved then none else n.slot k := by
  induction ks generalizing n with
  | nil => simp
  | cons k ks ih =>
    obtain ⟨hk1, hk2⟩ := List.nodup_cons.mp hk
    by_cases hr : (n.slot k).isSome = true ∧ n.mask.getLsbD k.number = false ∧ n.queue.length < 16
    · obtain ⟨h1, h2, h3⟩ := hr
      obtain ⟨x, hx⟩ := Option.isSome_iff_exists.mp h1
      have hf : flushSlot n k = { n with queue := n.queue ++ [x] }.setSlot k none := by
        simp only [flushSlot, hx, h2, queueRoom, h3]; rfl
      have hs : ∀ j, j ≠ k → (flushSlot n k).slot j = n.slot j := by
        intro j hj; rw [hf, slot_setSlot_other _ _ hj]; rfl
      have hc : (ks.filter fun j =>
            ((flushSlot n k).slot j).isSome && !(flushSlot n k).mask.getLsbD j.number)
          = ks.filter fun j => (n.slot j).isSome && !n.mask.getLsbD j.number := by
        apply List.filter_congr; intro j hj
        rw [hs j (fun e => hk1 (e ▸ hj))]; rw [hf]; rfl
      have hl : (flushSlot n k).queue = n.queue ++ [x] := by rw [hf]; rfl
      have hn : (16 - n.queue.length) = (16 - (n.queue.length + 1)) + 1 := by omega
      obtain ⟨ih1, ih2⟩ := ih hk2 (flushSlot n k)
      simp only [List.foldl_cons, hc, hl, List.length_append, List.length_cons, List.length_nil]
        at ih1 ih2 ⊢
      rw [List.filter_cons_of_pos (by simp [h1, h2]), hn, List.take_succ_cons]
      have hm : ∀ j ∈ List.take (16 - (n.queue.length + (0+1)))
          (ks.filter fun j => (n.slot j).isSome && !n.mask.getLsbD j.number), j ≠ k := by
        intro j hj e; subst e
        exact hk1 (List.mem_filter.mp (List.mem_of_mem_take hj)).1
      constructor
      · rw [ih1]
        rw [List.filterMap_congr fun j hj => hs j (hm j hj), List.filterMap_cons_some hx, hf]; simp [NoticePort.setSlot]
      · intro j
        rw [ih2 j]
        by_cases hj : j = k
        · subst hj; rw [hf]; simp
        · simp [hj, hs j hj]
    · have hf : flushSlot n k = n := by
        unfold flushSlot queueRoom
        split
        · next x hx =>
          rw [if_neg]
          intro hb; apply hr
          simp only [Bool.and_eq_true, Bool.not_eq_true', decide_eq_true_eq] at hb
          exact ⟨by simp [hx], hb⟩
        · rfl
      obtain ⟨ih1, ih2⟩ := ih hk2 n
      simp only [List.foldl_cons, hf]
      have : ((k :: ks).filter fun j => (n.slot j).isSome && !n.mask.getLsbD j.number).take
            (16 - n.queue.length)
          = (ks.filter fun j => (n.slot j).isSome && !n.mask.getLsbD j.number).take
            (16 - n.queue.length) := by
        by_cases hp : (n.slot k).isSome = true ∧ n.mask.getLsbD k.number = false
        · have hq : ¬ n.queue.length < 16 := fun h => hr ⟨hp.1, hp.2, h⟩
          rw [show 16 - n.queue.length = 0 by omega]; rfl
        · rw [List.filter_cons_of_neg]; simpa using hp
      rw [this]
      exact ⟨ih1, ih2⟩

/-- A flush is as R164 says; with hold set it changes nothing. -/
theorem flush_flushed (n : NoticePort) (h : n.hold = false) :
    Flushed n.slot n.mask n.queue n.flush
      ∧ n.flush = { n with queue := n.flush.queue, slots := n.flush.slots } := by
  have hf : n.flush = NoticeKind.all.foldl flushSlot n := by simp [NoticePort.flush, h]
  obtain ⟨h1, h2⟩ := foldl_flushSlot NoticeKind.all (by decide) n
  rw [hf]
  have hq := congrArg NoticePort.queue h1
  refine ⟨⟨hq, h2⟩, ?_⟩
  rw [hq]; exact h1

/-- With hold set a flush changes nothing (R164). -/
theorem flush_held (n : NoticePort) (h : n.hold = true) : n.flush = n := by simp [NoticePort.flush, h]

/-- Slots dropped: those of the kinds in the set, and nothing else (R165). -/
theorem dropSlots_eq (n : NoticePort) (kinds : NoticeSet) :
    n.dropSlots kinds = { n with slots := (n.dropSlots kinds).slots }
      ∧ ∀ j, (n.dropSlots kinds).slot j = if kinds.getLsbD j.number then none else n.slot j := by
  have H : ∀ (ks : List NoticeKind) (n : NoticePort),
      let m := ks.foldl (fun n k => if kinds.getLsbD k.number then n.setSlot k none else n) n
      m = { n with slots := m.slots }
        ∧ ∀ j, m.slot j = if j ∈ ks ∧ kinds.getLsbD j.number then none else n.slot j := by
    intro ks
    induction ks with
    | nil => simp
    | cons k ks ih =>
      intro n
      simp only [List.foldl_cons]
      by_cases hk : kinds.getLsbD k.number = true
      · obtain ⟨h1, h2⟩ := ih (n.setSlot k none)
        simp only [hk, if_true]
        refine ⟨by rw [h1]; rfl, fun j => ?_⟩
        rw [h2 j]
        by_cases hj : j = k
        · subst hj; simp [hk]
        · simp [hj, slot_setSlot_other _ _ hj]
      · obtain ⟨h1, h2⟩ := ih n
        simp only [hk, Bool.false_eq_true, if_false]
        refine ⟨h1, fun j => ?_⟩
        rw [h2 j]
        by_cases hj : j = k
        · subst hj; simp [hk]
        · simp [hj]
  obtain ⟨h1, h2⟩ := H NoticeKind.all n
  refine ⟨h1, fun j => (h2 j).trans ?_⟩
  have : j ∈ NoticeKind.all := by cases j <;> decide
  simp [this]

/-! ### Ports -/

/-- A receiver sent back to HUNT: nothing kept, the rest of the port as it was. -/
@[simp] theorem port_hunt (s : State) (p : Port) :
    (s.hunt p).port p =
      { s.port p with rx := { (s.port p).rx with mode := .hunt, bytes := [] } } :=
  PerPort.get_set_same _ _ _

@[simp] theorem port_keepByte (s : State) (p : Port) (b : Byte) (m : RxMode) :
    (s.keepByte p b m).port p =
      { s.port p with
        rx := { mode := m, bytes := (s.port p).rx.bytes ++ [b], last := s.timebase } } :=
  PerPort.get_set_same _ _ _

@[simp] theorem port_takeInHand (s : State) (p : Port) :
    (s.takeInHand p).port p = { s.port p with tx := .inHand s.timebase s.setupEn } :=
  PerPort.get_set_same _ _ _

/-- A partial frame is kept while its gap is within 2 ms (R155). -/
theorem dropLate_keeps (s : State) (p : Port) (h : s.gapTooLong p = false) : s.dropLate p = s := by
  simp [State.dropLate, h]

end Sys2Proof.Machine
end

