-- ==== Sys2Proof/Laws/Admission.lean ====
section
/-! SUPPORT. The walks of a regulation record at the Admission Unit, each once with all it can do: the
releases of the records that have arrived, and the displacement for the saw. -/

namespace Sys2Proof.Machine

-- One declaration after another: the package as one text then needs few threads.
set_option Elab.async false

/-- The release of one record that has arrived, its entry in RESERVED (R58): the record and its entry's
state together, and the two notices. -/
theorem arrive_eq (s : State) (x : Reservation) (k : Fin 4) (hs : s.entryState x.entry = .reserved k) :
    s.arrive x =
      { s with
        ltc := (s.moveEntry x.entry .on .arrived).ltc
        adu :=
          { s.adu with
            table := (s.adu.table.filter (fun y => y.slot ≠ x.slot)).filter (fun y => y.entry ≠ x.entry) }
        posted :=
          s.posted
            ++ [.noticeDelivery .entryChanged x.entry.val (3 + 16 * 5),
              .noticeDelivery .reservationEnded x.entry.val 0] } := by
  have h : ∀ a, ({ s with adu := a } : State).entryState x.entry = .reserved k := fun _ => hs
  unfold State.arrive State.endReservation
  simp only [h, EntryState.isReserved, if_true, State.notice, State.post, State.moveEntry,
    State.admissionAfterMove]
  simp [State.load, List.append_assoc]
  rfl

/-- Records with slots and entries of their own, released one after another (R56 stage 2): they leave the
table, their entries are ON, and no other entry is touched. -/
theorem foldl_arrive (l : List Reservation) (s : State) (hl : l.Sublist s.adu.table)
    (hn : (s.adu.table.map (·.slot)).Nodup) (he : (s.adu.table.map (·.entry)).Nodup)
    (hr : ∀ x ∈ l, ∃ k, s.entryState x.entry = .reserved k) :
    let t := l.foldl State.arrive s
    t =
        { s with
          adu := { s.adu with table := s.adu.table.filter (fun x => x ∉ l) }, posted := t.posted
          ltc := { s.ltc with loads := t.ltc.loads, relays := t.ltc.relays } }
      ∧ (∀ x ∈ l, t.entryState x.entry = .on
          ∧ t.ltc.relays.get x.entry = decide (x.entry ≠ sawEntry))
      ∧ (∀ e : Entry, (∀ x ∈ l, x.entry ≠ e) →
          t.load e = s.load e ∧ t.ltc.relays.get e = s.ltc.relays.get e)
      ∧ t.posted =
          s.posted
            ++ l.flatMap (fun x =>
                [.noticeDelivery .entryChanged x.entry.val (3 + 16 * 5),
                  .noticeDelivery .reservationEnded x.entry.val 0]) := by
  induction l generalizing s with
  | nil => simp
  | cons x xs ih =>
    obtain ⟨k, hk⟩ := hr x (List.mem_cons_self ..)
    have hx : x ∈ s.adu.table := hl.subset (List.mem_cons_self ..)
    have hnd : ((x :: xs).map (·.entry)).Nodup := List.Sublist.nodup (hl.map _) he
    have hxs : ∀ y ∈ xs, y.entry ≠ x.entry := by
      intro y hy e
      simp at hnd
      exact hnd.1 y hy e
    have ha := arrive_eq s x k hk
    have htab : (s.adu.table.filter (fun y => y.slot ≠ x.slot)).filter (fun y => y.entry ≠ x.entry)
        = s.adu.table.filter (fun y => y ≠ x) := by
      rw [List.filter_filter]
      apply List.filter_congr
      intro y hy
      by_cases e : y = x
      · simp [e]
      · have h1 : y.entry ≠ x.entry := fun q => e (List.inj_on_of_nodup_map he hy hx q)
        have h2 : y.slot ≠ x.slot := fun q => e (List.inj_on_of_nodup_map hn hy hx q)
        simp [e, h1, h2]
    rw [htab] at ha
    have hsub : xs.Sublist (s.arrive x).adu.table := by
      have hxx : xs = xs.filter (fun y => y ≠ x) := by
        symm
        rw [List.filter_eq_self]
        intro y hy
        simp only [ne_eq, decide_not, Bool.not_eq_true', decide_eq_false_iff_not]
        intro e
        exact hxs y hy (e ▸ rfl)
      rw [ha, hxx]
      exact List.Sublist.filter _ ((List.sublist_cons_self x xs).trans hl)
    have hld : ∀ e, e ≠ x.entry → (s.arrive x).load e = s.load e := by
      intro e h
      rw [ha]
      exact load_moveEntry_other s .on .arrived h
    obtain ⟨i1, i3, i4, i5⟩ := ih (s.arrive x) hsub
      (by rw [ha]; exact List.Sublist.nodup (List.Sublist.map _ List.filter_sublist) hn)
      (by rw [ha]; exact List.Sublist.nodup (List.Sublist.map _ List.filter_sublist) he)
      (by
        intro y hy
        obtain ⟨j, hj⟩ := hr y (List.mem_cons_of_mem _ hy)
        exact ⟨j, by rw [State.entryState, hld _ (hxs y hy)]; exact hj⟩)
    simp only [List.foldl_cons]
    refine ⟨?_, ?_, ?_, ?_⟩
    · refine i1.trans ?_
      have hf : (s.arrive x).adu.table.filter (fun y => y ∉ xs)
          = s.adu.table.filter (fun y => y ∉ x :: xs) := by
        rw [ha]
        simp only [List.filter_filter]
        apply List.filter_congr
        intro y _
        by_cases e1 : y = x <;> by_cases e2 : y ∈ xs <;> simp [e1, e2]
      rw [hf, ha]
      rfl
    · intro y hy
      rcases List.mem_cons.mp hy with rfl | hy
      · obtain ⟨q1, q2⟩ := i4 y.entry (fun z hz => hxs z hz)
        rw [State.entryState, q1, q2, ha]
        exact ⟨entryState_moveEntry_same s y.entry .on .arrived,
          relay_moveEntry_same s y.entry .on .arrived⟩
      · exact i3 y hy
    · intro e h
      obtain ⟨q1, q2⟩ := i4 e (fun z hz => h z (List.mem_cons_of_mem _ hz))
      have hne : e ≠ x.entry := fun q => h x (List.mem_cons_self ..) q.symm
      exact ⟨q1.trans (hld e hne),
        q2.trans (by rw [ha]; exact relay_moveEntry_other s .on .arrived hne)⟩
    · rw [i5, ha]
      simp

/-- Declared watts of a list of entries. -/
def declaredWatts (s : State) (l : List Entry) : Nat := (l.map (fun e => (s.load e).fields.watts)).sum

/-- The displacement walk (R66): a first part of the chain's entries that are ON and deferrable goes to
DISPLACED, in chain order, until the shortfall is met, the list has fourteen, or none is left. -/
theorem foldl_displaceOne (short : Int) (l : List Entry) (s : State) (n : Nat) (hn : l.Nodup) :
    let able := l.filter (fun e => decide (s.entryState e = .on) && (s.load e).fields.deferrable)
    let t := (l.foldl (displaceOne short) (s, n)).1
    ∃ moved,
      t =
          { s with
            adu := { s.adu with displaced := s.adu.displaced ++ moved }, posted := t.posted
            ltc := { s.ltc with loads := t.ltc.loads, relays := t.ltc.relays } }
        ∧ moved <+: able
        ∧ (∀ before last, moved = before ++ [last] →
            ((n + declaredWatts s before : Nat) : Int) < short
              ∧ s.adu.displaced.length + before.length < 14)
        ∧ (short ≤ ((n + declaredWatts s moved : Nat) : Int) ∨ moved = able
            ∨ 14 ≤ s.adu.displaced.length + moved.length)
        ∧ (∀ e ∈ moved, t.entryState e = .displaced ∧ t.ltc.relays.get e = false)
        ∧ (∀ e, e ∉ moved → t.load e = s.load e ∧ t.ltc.relays.get e = s.ltc.relays.get e)
        ∧ t.posted =
            s.posted ++ moved.map (fun e => .noticeDelivery .entryChanged e.val (5 + 16 * 11)) := by
  induction l generalizing s n with
  | nil => exact ⟨[], by simp, List.prefix_refl _, by simp, by simp, by simp, by simp, by simp⟩
  | cons x xs ih =>
    obtain ⟨hx, hn'⟩ := List.nodup_cons.mp hn
    have hcons : ∀ able, able = xs.filter (fun e =>
          decide (s.entryState e = .on) && (s.load e).fields.deferrable) →
        (x :: xs).filter (fun e => decide (s.entryState e = .on) && (s.load e).fields.deferrable) =
          if s.entryState x = .on ∧ (s.load x).fields.deferrable = true then x :: able else able := by
      rintro able rfl
      rw [List.filter_cons]
      simp
    simp only [List.foldl_cons, hcons _ rfl]
    by_cases hd : (n : Int) < short ∧ s.adu.displaced.length < 14 ∧ s.entryState x = .on
        ∧ (s.load x).fields.deferrable = true
    · obtain ⟨d1, d2, d3, d4⟩ := hd
      obtain ⟨u, hu⟩ : ∃ u : State, u =
          { s.moveEntry x .displaced .displaced with
            adu := { s.adu with displaced := s.adu.displaced ++ [x] } } := ⟨_, rfl⟩
      have hone : displaceOne short (s, n) x = (u, n + (s.load x).fields.watts) := by
        have hm : (s.moveEntry x .displaced .displaced).adu = s.adu :=
          adu_moveEntry_idle s x .displaced .displaced (by rw [d3]; simp) (by simp)
        unfold displaceOne
        simp only [d1, d2, d3, d4, and_self, if_true, hm, hu]
      have hul : ∀ e, e ≠ x → u.load e = s.load e := by
        intro e he; subst hu; exact load_moveEntry_other s .displaced .displaced he
      have hur : ∀ e, e ≠ x → u.ltc.relays.get e = s.ltc.relays.get e := by
        intro e he; subst hu; exact relay_moveEntry_other s .displaced .displaced he
      have hux : u.entryState x = .displaced := by
        subst hu; exact entryState_moveEntry_same s x .displaced .displaced
      have huxr : u.ltc.relays.get x = false := by
        subst hu; exact relay_moveEntry_same s x .displaced .displaced
      have hudl : u.adu.displaced = s.adu.displaced ++ [x] := by subst hu; rfl
      obtain ⟨m, i1, i3, i4, i5, i6, i7, i8⟩ := ih u (n + (s.load x).fields.watts) hn'
      have hab : xs.filter (fun e => decide (u.entryState e = .on) && (u.load e).fields.deferrable)
          = xs.filter (fun e => decide (s.entryState e = .on) && (s.load e).fields.deferrable) := by
        apply List.filter_congr
        intro e he
        have hne : e ≠ x := fun q => hx (q ▸ he)
        rw [State.entryState, hul e hne]; rfl
      rw [hab] at i3 i5
      have hxm : x ∉ m := fun q => hx (List.mem_filter.mp (i3.subset q)).1
      have hW : ∀ l : List Entry, x ∉ l → declaredWatts u l = declaredWatts s l := by
        intro l hl
        unfold declaredWatts
        congr 1
        apply List.map_congr_left
        intro e he
        rw [hul e (fun q => hl (q ▸ he))]
      have hWc : ∀ l, declaredWatts s (x :: l) = (s.load x).fields.watts + declaredWatts s l := by
        intro l; simp [declaredWatts]
      rw [hone, if_pos ⟨d3, d4⟩]
      refine ⟨x :: m, ?_, List.cons_prefix_cons.mpr ⟨rfl, i3⟩, ?_, ?_, ?_, ?_, ?_⟩
      · refine i1.trans ?_
        subst hu
        simp [State.moveEntry, d3]
      · intro before last hb
        cases before with
        | nil => exact ⟨by simpa [declaredWatts] using d1, by simpa using d2⟩
        | cons y ys =>
          simp only [List.cons_append, List.cons.injEq] at hb
          obtain ⟨rfl, hb⟩ := hb
          obtain ⟨j1, j2⟩ := i4 ys last hb
          rw [hW ys (fun q => hxm (by rw [hb]; simp [q]))] at j1
          rw [hudl] at j2
          rw [hWc]
          simp only [List.length_append, List.length_cons, List.length_nil] at j2 ⊢
          omega
      · rw [hW m hxm, hudl] at i5
        rw [hWc]
        rcases i5 with i5 | i5 | i5
        · left; omega
        · right; left; rw [i5]
        · right; right; simp only [List.length_append, List.length_cons, List.length_nil] at i5 ⊢; omega
      · intro e he
        rcases List.mem_cons.mp he with rfl | he
        · obtain ⟨q1, q2⟩ := i7 e hxm
          exact ⟨by rw [State.entryState, q1]; exact hux, q2.trans huxr⟩
        · exact i6 e he
      · intro e he
        simp only [List.mem_cons, not_or] at he
        obtain ⟨q1, q2⟩ := i7 e he.2
        exact ⟨q1.trans (hul e he.1), q2.trans (hur e he.1)⟩
      · rw [i8]
        subst hu
        simp [State.moveEntry]
        rfl
    · have hone : displaceOne short (s, n) x = (s, n) := by
        unfold displaceOne
        simp only [hd, if_false]
      rw [hone]
      obtain ⟨m, i1, i3, i4, i5, i6, i7, i8⟩ := ih s n hn'
      by_cases hp : s.entryState x = .on ∧ (s.load x).fields.deferrable = true
      · have hstop : short ≤ (n : Int) ∨ 14 ≤ s.adu.displaced.length := by
          by_contra hh
          simp only [not_or, not_le] at hh
          exact hd ⟨hh.1, hh.2, hp⟩
        have hm : m = [] := by
          rcases List.eq_nil_or_concat m with rfl | ⟨b, l, hb⟩
          · rfl
          · obtain ⟨j1, j2⟩ := i4 b l (by simpa using hb)
            omega
        subst hm
        rw [if_pos hp]
        refine ⟨[], i1, List.nil_prefix, i4, ?_, i6, i7, i8⟩
        rcases hstop with hs | hs
        · exact .inl (by simpa [declaredWatts] using hs)
        · exact .inr (.inr (by simpa using hs))
      · rw [if_neg hp]
        exact ⟨m, i1, i3, i4, i5, i6, i7, i8⟩

end Sys2Proof.Machine
end

