-- ==== Sys2Proof/Laws/Exec.lean ====
section
/-! SUPPORT. Every command has a next state in every state: no arm of the machine faults or refuses. -/

namespace Sys2Proof.Machine

-- One declaration after another: the package as one text then needs few threads.
set_option Elab.async false

/-- Every command answers a next state. -/
theorem exec_next (i : Instr) (s : State) : ∃ t, exec i s = .next t := by
  cases i <;> exact ⟨_, rfl⟩

/-- Every step answers a next state. -/
theorem step_next (s : State) : ∃ t, step s = .next t := by
  unfold step
  split
  · exact exec_next _ _
  · exact ⟨_, rfl⟩

/-- What a step does: the command at the front, or time's turn. -/
theorem step_cases (s t : State) (h : step s = .next t) :
    (∃ i rest, s.pending = i :: rest ∧ exec i (s.withPending rest) = .next t)
      ∨ (s.pending = [] ∧ t = s.idle) := by
  unfold step at h
  split at h
  · next i rest e => exact .inl ⟨i, rest, e, h⟩
  · next e => exact .inr ⟨e, by injection h with h; exact h.symm⟩

/-- Time's turn: an event brought to the queue, or one microsecond. -/
theorem idle_cases (s : State) : (∃ i, s.idle = s.bring i) ∨ s.idle = s.tick := by
  unfold State.idle
  split
  · exact .inl ⟨_, rfl⟩
  · exact .inr rfl

/-- A law of the state that does not look at the clock, the announcements, the queue or the counter of
draws is kept by every step if it is kept by every command. -/
theorem kept_of_exec (P : State → Prop)
    (hq : ∀ s q, P s → P (s.withPending q)) (hb : ∀ s i, P s → P (s.bring i))
    (ht : ∀ s, P s → P s.tick) (hx : ∀ i s t, P s → exec i s = .next t → P t) : Kept P := by
  intro s t h hs
  rcases step_cases s t hs with ⟨i, rest, -, he⟩ | ⟨-, rfl⟩
  · exact hx i _ t (hq s rest h) he
  · rcases idle_cases s with ⟨i, hi⟩ | hi
    · rw [hi]; exact hb s i h
    · rw [hi]; exact ht s h

/-- Time's passing changes the timebase and the notice clock alone (R1, R163). -/
theorem tick_frame (s : State) :
    s.tick = { s with timebase := s.tick.timebase, clockUs := s.tick.clockUs,
                      clockMs := s.tick.clockMs } := by
  unfold State.tick
  split
  · rfl
  · rfl
  · split <;> rfl

end Sys2Proof.Machine
end

