-- ==== Sys2Proof/Laws/Regulation.lean ====
section
/-! SUPPORT. The regulator's shared operations: what a transfer and a settling of the regulation state
can do, and the ranges of the arithmetic of an update. -/

namespace Sys2Proof.Machine

-- One declaration after another: the package as one text then needs few threads.
set_option Elab.async false

/-- A regulator in the state its enable and line give stays as it is (R25). -/
theorem settle_same (s : State) (h : s.brg.state = regStateFor s.brg.active.enable s.brg.line) :
    s.settleRegulation = s := by simp [State.settleRegulation, h]

/-- A transfer touches the regulator and the announcements only. -/
theorem transfer_frame (s : State) (how : Nat) :
    s.transfer how = { s with brg := (s.transfer how).brg, posted := (s.transfer how).posted } := by
  unfold State.transfer State.giveDemand; simp only; split <;> rfl

/-- A transfer makes the shadow the active copy and leaves the regulation state, D and A (R23). -/
theorem transfer_brg (s : State) (how : Nat) :
    (s.transfer how).brg =
      { s.brg with
        active := s.brg.shadow, transferEnable := false
        firstUpdate := s.brg.firstUpdate || decide (s.brg.shadow.fSet ≠ s.brg.active.fSet)
        wd :=
          if s.brg.shadow.banks ≠ s.brg.active.banks then
            wattsOf s.brg.d (rtotOf s.brg.shadow.banks)
          else s.brg.wd
        ring :=
          if rtotOf s.brg.shadow.banks ≠ rtotOf s.brg.active.banks then [] else s.brg.ring } := by
  unfold State.transfer State.giveDemand
  by_cases h : s.brg.shadow.banks = s.brg.active.banks <;> simp [h]

/-- D and Wd as they stood before are given to nobody (R26). -/
theorem giveChange_same (s : State) : s.giveChange s.brg.d s.brg.wd = s := by simp [State.giveChange]

/-- A change of D or of Wd is announced to the Bank Firing Unit, once, and does nothing else (R26). -/
theorem giveChange_frame (s : State) (d wd : Nat) :
    s.giveChange d wd = s ∨ s.giveChange d wd = s.giveDemand := by
  unfold State.giveChange; split <;> simp

/-- Giving the demand leaves the regulator. -/
@[simp] theorem giveDemand_brg (s : State) : s.giveDemand.brg = s.brg := rfl

/-- The start demand changes D and Wd alone in the regulator (R26). -/
theorem startDemand_brg (s : State) :
    s.startDemand.brg =
      { s.brg with
        d := s.brg.active.startDemand, wd := wattsOf s.brg.active.startDemand s.rtot } := by
  unfold State.startDemand State.giveChange
  simp only
  split <;> rfl

/-- An announced change of regulation state leaves the regulator. -/
@[simp] theorem announce_brg (s : State) : s.announceRegulation.brg = s.brg := rfl

/-- Entering a state changes the state alone in the regulator. -/
@[simp] theorem enter_brg (s : State) (r : RegState) :
    (s.enterRegulation r).brg = { s.brg with state := r } := rfl

/-- Settling touches the regulator and the announcements only. -/
theorem settle_frame (s : State) :
    s.settleRegulation =
      { s with brg := s.settleRegulation.brg, posted := s.settleRegulation.posted } := by
  unfold State.settleRegulation
  simp only
  split
  · rfl
  split
  · split
    · generalize hl : ({ s with brg := _ } : State) = left
      have hf := transfer_frame left 2
      split <;> (subst hl; simp only [State.announceRegulation, State.enterRegulation]; rw [hf]; rfl)
    · rfl
  · rfl

/-- After settling, the regulation state is the one the active enable and the line give (R25). -/
theorem settle_state (s : State) :
    s.settleRegulation.brg.state =
      regStateFor s.settleRegulation.brg.active.enable s.settleRegulation.brg.line := by
  unfold State.settleRegulation
  simp only
  split
  · assumption
  split
  · split
    · split
      · assumption
      · rfl
    · rfl
  · rfl

/-- Settling from outside REGULATING changes the regulation state alone. -/
theorem settle_outside (s : State) (h : s.brg.state ≠ .regulating) :
    s.settleRegulation.brg = { s.brg with state := regStateFor s.brg.active.enable s.brg.line } := by
  unfold State.settleRegulation
  simp only [h, if_false]
  split
  · next e => rw [← e]
  · rfl

/-! ### Arithmetic (R29 to R35) -/

theorem clampInt_le (lo hi x : Int) (h : lo ≤ hi) : lo ≤ clampInt lo hi x ∧ clampInt lo hi x ≤ hi := by
  unfold clampInt; omega

theorem errorOf_range (f fSet : Nat) : (errorOf f fSet).natAbs ≤ 5000 := by
  unfold errorOf clampInt; omega

theorem demandAfter_range (d : Nat) (x : Int) : demandAfter d x ≤ 1000 := by
  unfold demandAfter clampInt; omega

theorem wattsOf_le (d rtot : Nat) (h : d ≤ 1000) : wattsOf d rtot ≤ rtot := by
  unfold wattsOf
  exact Nat.div_le_of_le_mul (Nat.mul_le_mul_right _ h)

theorem averageAfter_range (a d : Nat) (ha : a ≤ 16000) (hd : d ≤ 1000) : averageAfter a d ≤ 16000 := by
  unfold averageAfter roundNearest
  split <;> omega

theorem pushFloor_length (ring : List Nat) (w : Nat) : (pushFloor ring w).length ≤ 16 := by
  simp [pushFloor]; omega

theorem satCountAfter_le (n : Nat) (b : Bool) : satCountAfter n b ≤ 50 := by
  unfold satCountAfter; split <;> omega

/-! ### Firing (R39, R43 to R45) -/

/-- Settling the firing unit leaves the outputs, the copies it holds and the next allocation, and gives
the state of the table; in FIRING OFF the set and the schedule are empty. -/
theorem firing_settle (u : Firing) :
    u.settle.state = u.due ∧ u.settle.gates = u.gates ∧ u.settle.next = u.next
      ∧ u.settle.banks = u.banks ∧ u.settle.reg = u.reg ∧ u.settle.line = u.line
      ∧ (u.due = .firing → u.settle.current = u.current ∧ u.settle.schedule = u.schedule)
      ∧ (u.due = .off → u.settle.current = none ∧ u.settle.schedule = ⟨none, none, none⟩) := by
  unfold Firing.settle
  cases h : u.due <;> simp

/-- A fired bank's delay is at least 150 µs and ends 150 µs before the crossing (R44, R45). -/
theorem fired_delay (h q : Nat) (hm : (bankSetOf h q).mark = .fired) :
    (bankSetOf h q).delay = some (delayOf q h) ∧ 150 ≤ delayOf q h ∧ delayOf q h + 400 ≤ h := by
  unfold bankSetOf at *
  by_cases hq : q = 0
  · simp [hq] at hm
  · simp only [hq, if_false] at *
    refine ⟨trivial, Nat.le_max_left _ _, ?_⟩
    by_contra hn
    simp [hn] at hm

end Sys2Proof.Machine
end

