-- ==== Sys2Proof/Tests/Slice0.lean ====
section
/-! SUPPORT. Tests on fixed values: ill-formed commands refused, frames written out from section 10.1,
one step of each kind against the manual's worked examples, and for each statement with hypotheses a
state and operands that meet them. Expected values come from the manual's tables or by hand from them. -/

namespace Sys2Proof.Tests

-- One declaration after another: the package as one text then needs few threads.
set_option Elab.async false

open Sys2Proof Sys2Proof.Machine

/-! ### Ill-formed commands are refused, well-formed ones are not (WellFormed) -/

/-- A record of the ranges of R36: the first worked update of section 2.4. -/
def rec1 : RegRecord :=
  { f := 50050, e := 50, d := 418, wd := 12540, floor := 12060, a := 6405, satHigh := false,
    exhausted := false, state := .regulating, time := 0 }

/-- What a change of regulation state carries (R25). -/
def chg (r : RegState) : RegChange :=
  { state := r, d := 1000, wd := 30000, floor := 0, satHigh := false, exhausted := false }

theorem test_wf_record : (Instr.recordAtAdmission rec1).wf = true := by decide
theorem test_wf_record_f : (Instr.recordAtAdmission { rec1 with f := 39999 }).wf = false := by decide
theorem test_wf_record_f_high : (Instr.recordAtShed { rec1 with f := 62501 }).wf = false := by decide
theorem test_wf_record_e : (Instr.recordAtTurbine { rec1 with e := -5001 }).wf = false := by decide
theorem test_wf_record_d : (Instr.recordAtFiring { rec1 with d := 1001 }).wf = false := by decide
theorem test_wf_record_wd : (Instr.recordAtFiring { rec1 with wd := 96001 }).wf = false := by decide
theorem test_wf_record_floor : (Instr.recordAtFiring { rec1 with floor := 96001 }).wf = false := by
  decide
theorem test_wf_record_a : (Instr.recordAtFiring { rec1 with a := 16001 }).wf = false := by decide
theorem test_wf_change : (Instr.regStateAtShed (chg .holding)).wf = true := by decide
theorem test_wf_change_d : (Instr.regStateAtShed { chg .holding with d := 1001 }).wf = false := by
  decide
theorem test_wf_change_wd : (Instr.regStateAtFiring { chg .holding with wd := 96001 }).wf = false := by
  decide
theorem test_wf_change_floor :
    (Instr.regStateAtAdmission { chg .holding with floor := 96001 }).wf = false := by decide
theorem test_wf_demand :
    (Instr.demandChange { d := 1001, wd := 0, banks := none }).wf = false := by decide
theorem test_wf_demand_wd :
    (Instr.demandChange { d := 0, wd := 96001, banks := none }).wf = false := by decide
theorem test_wf_demand_rating :
    (Instr.demandChange
      { d := 0, wd := 0, banks := some ⟨⟨0, true⟩, ⟨32001, true⟩, ⟨0, true⟩⟩ }).wf = false := by decide
theorem test_wf_period_short :
    (Instr.regulationUpdate { period := 15999, present := none }).wf = false := by decide
theorem test_wf_period_long :
    (Instr.regulationUpdate { period := 25001, present := none }).wf = false := by decide
theorem test_wf_period_sum :
    (Instr.regulationUpdate { period := 20000, present := some (63999, 50000) }).wf = false := by decide
theorem test_wf_period_f :
    (Instr.regulationUpdate { period := 20000, present := some (80000, 62501) }).wf = false := by decide
theorem test_wf_half_cycle :
    (Instr.halfCycleStart { polarity := .rising, time := 0, h := 7999 }).wf = false := by decide
theorem test_wf_rota_none : (Instr.rotaWrite .h 0 0 []).wf = false := by decide
theorem test_wf_rota_nine : (Instr.rotaWrite .h 0 0 (List.replicate 9 0)).wf = false := by decide
theorem test_wf_record_state : (Instr.recordAtFiring { rec1 with state := .holding }).wf = false := by
  decide
theorem test_wf_raise :
    (Instr.faultRaise ⟨.lineLost, .line .absent 0⟩).wf = true
      ∧ (Instr.faultRaise ⟨.lineLost, .turbine true⟩).wf = false
      ∧ (Instr.faultRaise ⟨.lineLost, .line .absent 62501⟩).wf = false
      ∧ (Instr.faultRaise ⟨.ballastNone, .ballast .regulating 1001 0⟩).wf = false := by decide
theorem test_wf_notice_subject : (Instr.noticeDelivery .lineState 16 0).wf = false := by decide
theorem test_wf_notice_value : (Instr.noticeDelivery .lineState 0 65536).wf = false := by decide

/-! ### What frames spell (sections 10.1 and 10.2) -/

/-- The check value the manual gives for "123456789". -/
theorem test_crc_check :
    crc16 [0x31, 0x32, 0x33, 0x34, 0x35, 0x36, 0x37, 0x38, 0x39] = 0x29B1#16 := by decide +kernel

/-- SAW START of 14,000 W with DISPLACE yes, byte by byte: start, LEN 4, code 0x30, surge, DISPLACE, and
the CRC of LEN to the last parameter, 0xCDCA by an independent computation. -/
theorem test_saw_start_frame :
    (Instr.sawStart .s 14000 1).frame = [0xC3, 0x04, 0x30, 0x36, 0xB0, 0x01, 0xCD, 0xCA] := by
  decide +kernel

/-- READ FAULTS, byte by byte, with its CRC 0x6EBA. -/
theorem test_read_faults_frame : (Instr.readFaults .h).frame = [0xC3, 0x01, 0x04, 0x6E, 0xBA] := by
  decide +kernel

/-- A response of code 0x31, DONE, two notices waiting: start 0x3C, LEN 3, and its CRC 0xCDCB. -/
theorem test_response_frame :
    ({ code := 0x31, result := .done, waiting := 2, data := [] } : Response).frame
      = [0x3C, 0x03, 0x31, 0x00, 0x02, 0xCD, 0xCB] := by decide +kernel

/-- READ SETTING of group 2, item 10: code 0x10, three parameters. -/
theorem test_read_setting_params :
    RequestName.readSetting.read .g [2, 10, 0] = some (.readSetting .g 2 10 0)
      ∧ RequestName.ofCode 0x10 = some .readSetting := by decide

/-- A two-byte field has its high byte first: 14,000 W is 0x36 0xB0. -/
theorem test_saw_start_params :
    RequestName.sawStart.read .s [0x36, 0xB0, 0] = some (.sawStart .s 14000 0) := by decide

/-- WRITE ENTRY comes with and without its mask. -/
theorem test_write_entry_params :
    RequestName.writeEntry.read .h [5, 1, 0x04, 0xB0] = some (.writeEntry .h 5 1 1200 none)
      ∧ RequestName.writeEntry.read .h [5, 1, 0x04, 0xB0, 0x21]
          = some (.writeEntry .h 5 1 1200 (some 0x21)) := by decide

/-- ROTA WRITE must carry as many bytes as its count asks for. -/
theorem test_rota_write_params :
    RequestName.rotaWrite.read .h [0, 8, 1, 0x00, 0x7F] = some (.rotaWrite .h 0 8 [0x007F])
      ∧ RequestName.rotaWrite.read .h [0, 8, 2, 0x00, 0x7F] = none := by decide

/-- No word of the table spells a command: no row has bits. -/
theorem test_no_words : decodeTableWord 16 0xC301 = none := rfl

/-! ### Small states -/

/-- The state a command answers. -/
def after (i : Instr) (s : State) : State :=
  match exec i s with
  | .next t => t
  | _ => s

/-- A command's next state is the one named so. -/
theorem exec_after (i : Instr) (s : State) : exec i s = .next (after i s) := by
  obtain ⟨t, h⟩ := exec_next i s
  simp [after, h]

/-- The plant of section 2.4: 6,000, 12,000 and 12,000 W, all available. -/
def plant : RegParams :=
  { RegParams.factory with banks := ⟨⟨6000, true⟩, ⟨12000, true⟩, ⟨12000, true⟩⟩ }

/-- In service at 100 s, the plant of section 2.4 in HOLDING with D 1000, the crystal timing. -/
def run : State :=
  { State.reset with
    timebase := 100000000
    phase := .running
    rfm := { state := .crystal, goodWindows := 0, noGood := none }
    brg :=
      { State.reset.brg with
        active := plant, shadow := plant, state := .holding, d := 1000, wd := 30000, a := 16000
        firstUpdate := true }
    bfu := { State.reset.bfu with banks := plant.banks }
    adu := { State.reset.adu with crystal := true }
    tsv := { State.reset.tsv with runPermit := true } }

/-- The line and the regulator as they stand before the first worked update of section 2.4. -/
def regulating : State :=
  { run with
    lnm :=
      { run.lnm with
        state := .present, f := 50044, h := 9991, ring := [20000, 19980, 19980, 19970]
        pLast := some 19970, lastRise := some (100000000 - 19990)
        lastEdge := some { polarity := .falling, time := 100000000 - 9995 }
        lastFall := some (100000000 - 9995), absence := some (100000000 - 9995) }
    brg :=
      { run.brg with
        state := .regulating, line := .present, d := 400, wd := 12000, a := 6400, ePrev := 20
        lastError := 20, firstUpdate := false, ring := [11820, 12060, 12100] ++ List.replicate 13 12200 }
    shc := { run.shc with regulating := true }
    tsv := { run.tsv with line := .present }
    bfu := { run.bfu with state := .firing, reg := .regulating, line := .present } }

/-- An entry put into a state with watts. -/
def put (s : State) (e : Entry) (st : EntryState) (watts : Nat) : State :=
  s.setLoad e
    { s.load e with
      state := st, fields := { (s.load e).fields with wanted := decide (st ≠ .off), watts := watts } }

/-- The admission of section 4.10 before the record at 0 ms: the saw at the head with 14,000 W, then
circuit 3 with 800 W. -/
def admission : State :=
  let s := put (put regulating 14 .waiting 14000) 3 .waiting 800
  { s with
    adu :=
      { s.adu with
        queue := [14, 3]
        saw :=
          some
            { surge := 14000, displace := false, displaced := false, inserted := 100000000
              refused := false } }
    sws := { s.sws with stage := .waiting } }

/-- The record at 0 ms of section 4.10. -/
def rec0 : RegRecord := { rec1 with wd := 18300, d := 610, floor := 17400, time := 100000000 }

/-- Circuit 3 alone waiting. -/
def waiting3 : State :=
  let s := put regulating 3 .waiting 800
  { s with adu := { s.adu with queue := [3] } }

/-- Circuit 3 RESERVED in slot 0 since 3 s ago. -/
def reserved3 : State :=
  let s := put regulating 3 (.reserved 0) 800
  { s with
    ltc := { s.ltc with relays := s.ltc.relays.set 3 true }
    adu :=
      { s.adu with
        table :=
          [{ slot := 0, entry := 3, watts := 800, wdRef := 11100, time := 97000000,
             origin := .restore }]
        lastGrant := some 97000000 } }

/-- The plant of section 6.9: chain 9, 4, 11, 2, 7, with 4 and 2 ON and 9 OFF. -/
def dry : State :=
  let s := put (put (put regulating 4 .on 3000) 2 .on 2000) 9 .off 1500
  { s with ltc := { s.ltc with chain := [9, 4, 11, 2, 7] } }

/-- A short record of section 6.9. -/
def recShort : RegRecord :=
  { f := 49150, e := -850, d := 0, wd := 0, floor := 0, a := 0, satHigh := false, exhausted := true,
    state := .regulating, time := 0 }

/-- The fast record of section 6.9. -/
def recFast : RegRecord := { recShort with f := 45900, e := -4100, d := 120, wd := 3600 }

/-- A record at which neither holds (section 6.9, 400 ms). -/
def recEasy : RegRecord := { recShort with f := 49700, e := -300, d := 14, wd := 420 }

/-- The saw on delta as in section 8.8, its checks done. -/
def sawDelta : State :=
  let s := put run 14 .on 14000
  { s with
    sws :=
      { s.sws with
        stage := .delta, commands := ⟨true, false, true⟩, aux := ⟨true, false, true⟩ } }

/-- The saw in star since 6 s ago. -/
def sawStar : State :=
  { sawDelta with
    sws :=
      { sawDelta.sws with
        stage := .star, commands := ⟨true, true, false⟩, aux := ⟨true, true, false⟩
        dwell := some 94000000 } }

/-- The saw in changeover since 80 ms ago, K_STAR's check running. -/
def sawChange : State :=
  { sawDelta with
    sws :=
      { sawDelta.sws with
        stage := .changeover, commands := ⟨true, false, false⟩, aux := ⟨true, false, false⟩
        checks := ⟨none, some 99920000, none⟩, dead := some 99920000 } }

/-- The saw stopping since 500 ms ago, MAIN alone still closed. -/
def sawStopping : State :=
  { sawDelta with
    sws :=
      { sawDelta.sws with
        stage := .stopping, commands := ⟨false, false, false⟩, aux := ⟨true, false, false⟩
        stopping := some 99500000 } }

/-- A standing saw fault. -/
def sawFault : State :=
  { run with
    sws :=
      { run.sws with
        stage := .fault, latch := true
        record := some { contactor := .star, kind := .noConfirm, stage := .changeover, time := 0 } } }

/-- A standing trip of 41 s ago. -/
def tripped : State :=
  { run with
    tsv :=
      { run.tsv with
        latch := true, runPermit := false, direction := .tripped, lastA := some 15840
        lastF := some 50210, reference := .since 59000000
        record := some { cause := .lineOverspeed, time := 59000000, f := 58900 } } }

/-- Page 0 of section 7.10 in its slots 28 and 29 and page 1 in its slot 38, the rota playing at a slot. -/
def rota (pointer : Fin 64) : State :=
  { run with
    rtp :=
      { run.rtp with
        pages := run.rtp.pages.set 1 (factoryPage.set 38 0b00011110001111)
        buffer := (factoryPage.set 28 0b1111111).set 29 0b1111111
        playing := true, pointer := pointer, second := some 99000000 } }

/-- Port S with a response formed 500 µs ago. -/
def answered : State :=
  run.setPort .s
    { run.port .s with
      tx := .ready 99999500 { code := 0x31, result := .done, waiting := 2, data := [] } }

/-- Port S sending. -/
def sendingS : State := run.setPort .s { run.port .s with tx := .sending 99999500 [0x3C] }

/-- Port S in the middle of a frame whose last byte came 1 ms ago. -/
def midFrame : State :=
  run.setPort .s { run.port .s with rx := { mode := .length, bytes := [0xC3], last := 99999000 } }

/-- Port p with a silence limit of 5 s that has run out. -/
def silent (p : Port) : State :=
  let s := sawDelta.setPort p { sawDelta.port p with silence := some 95000000 }
  s.setDevice { s.settings.device with silence := s.settings.device.silence.set p 5 }

/-- A save running since 250 ms ago. -/
def saving : State :=
  { run with sst := { run.sst with save := .running 99750000 ImageData.factory } }

/-- A trip-area write in progress. -/
def writing : State :=
  { run with
    tsv := { run.tsv with mark := .inProgress }
    sst := { run.sst with areaWrite := some { start := 99990000, latch := true, record := none } } }

/-! ### Worked examples, one step each -/

/-- Section 1.7, the edge of 1,099,920: ring, f and H. -/
theorem test_line_edge :
    (after (.lineZcEdge .rising) regulating).lnm.ring = [19980, 19980, 19970, 19990]
      ∧ (after (.lineZcEdge .rising) regulating).lnm.f = 50050
      ∧ (after (.lineZcEdge .rising) regulating).lnm.h = 9990 := by decide +kernel

/-- Section 1.8: the switch falls back to LINE ESTABLISHING with H 9,995. -/
theorem test_source_switch :
    (after .sourceSwitch
        { regulating with lnm := { regulating.lnm with pLast := some 19990 } }).lnm.h = 9995
      ∧ (after .sourceSwitch regulating).lnm.state = .establishing
      ∧ (after .sourceSwitch regulating).lnm.discard = true := by decide

/-- R6: a window of 127 cycles is a crystal loss, one of 128 is good. -/
theorem test_check_window :
    (after (.checkWindowEnd 127) run).rfm.state = .fallback
      ∧ (after (.checkWindowEnd 128) run).rfm.state = .crystal := by decide

/-- Section 2.4, first update. -/
theorem test_update :
    let b := (after (.regulationUpdate { period := 19990, present := some (79920, 50050) })
      regulating).brg
    b.d = 418 ∧ b.wd = 12540 ∧ b.a = 6405 ∧ floorOf b.ring = 12060 ∧ b.ePrev = 50 := by
  decide +kernel

/-- Section 2.4, second update. -/
theorem test_second_update :
    let s := { regulating with brg := { regulating.brg with d := 418, ePrev := 50, a := 6405 } }
    let b := (after (.regulationUpdate { period := 20124, present := some (80064, 49960) }) s).brg
    b.d = 370 ∧ b.wd = 11100 ∧ b.a = 6397 ∧ floorOf b.ring = 11100 := by decide +kernel

/-- Section 2.6: the line lost in REGULATING, D at the start demand and A kept. -/
theorem test_line_lost :
    let b := (after (.lineStateAtRegulator .absent) regulating).brg
    b.state = .holding ∧ b.d = 1000 ∧ b.wd = 30000 ∧ b.ring = [] ∧ b.a = 6400 := by decide

/-- Section 2.5: APPLY REGULATION in REGULATING only sets the flag. -/
theorem test_apply :
    (after (.applyRegulation .g) regulating).brg.transferEnable = true := by decide

/-- Section 3.3, example fills; and with bank 1 unavailable. -/
theorem test_fills :
    allocate 12540 plant.banks = ⟨1000, 545, 0⟩ ∧ allocate 3000 plant.banks = ⟨500, 0, 0⟩
      ∧ allocate 12540 ⟨⟨6000, true⟩, ⟨12000, false⟩, ⟨12000, true⟩⟩ = ⟨1000, 0, 545⟩ := by
  decide +kernel

/-- Sections 3.6 and 3.7: delays and marks. -/
theorem test_delays :
    bankSetOf 9990 545 = { q := 545, delay := some 4768, mark := .fired }
      ∧ bankSetOf 10008 425 = { q := 425, delay := some 5382, mark := .fired }
      ∧ bankSetOf 10000 10 = { q := 10, delay := some 9775, mark := .heldOff }
      ∧ delayOf 150 10000 = 7016 ∧ delayOf 1000 9990 = 150 := by decide +kernel

/-- Section 3.6: the latch at 1,099,920 schedules BG0 at 1,100,070 and BG1 at 1,104,688. -/
theorem test_latch :
    let s := { regulating with bfu := { regulating.bfu with next := some ⟨1000, 545, 0⟩ } }
    (after (.halfCycleStart { polarity := .rising, time := 1099920, h := 9990 }) s).bfu.schedule
      = ⟨some 1100070, some 1104688, none⟩ := by decide +kernel

/-- R47: a due pulse goes high and leaves the schedule; 250 µs from its due time it ends. -/
theorem test_pulse :
    let s := { run with bfu := { run.bfu with schedule := ⟨some 99999990, none, none⟩ } }
    (after (.gatePulseDue 0) s).bfu.gates = ⟨some 99999990, none, none⟩ := by decide

/-- Section 4.10, 0 ms: the saw is granted in slot 0 with its surge, and the Sequencer signalled. -/
theorem test_saw_grant :
    let t := after (.recordAtAdmission rec0) admission
    t.entryState 14 = .reserved 0 ∧ t.headroom = 1400 ∧ t.adu.queue = [3]
      ∧ Instr.beginSignal ∈ t.posted := by decide +kernel

/-- Section 4.10, 40 ms: arrival, 18,300 − 9,960 = 8,340 against 7,000; at 20 ms none. -/
theorem test_arrival :
    let r : Reservation :=
      { slot := 0, entry := 14, watts := 14000, wdRef := 18300, time := 0, origin := .sawStart }
    hasArrived 9960 r = true ∧ hasArrived 12840 r = false := by decide

/-- Section 4.11: 4, 11 and 2 are displaced for a shortfall of 7,000, and 7 stays ON. -/
theorem test_displacement :
    let on (s : State) (e : Entry) (w : Nat) (d : Bool) :=
      s.setLoad e
        { fields := { Fields.none with wanted := true, deferrable := d, watts := w }, state := .on,
          notSeen := false }
    let s := on (on (on (on (on admission 9 1500 false) 4 3000 true) 11 2500 true) 2 2000 true) 7 1200
      true
    let s := { s with ltc := { s.ltc with chain := [9, 4, 11, 2, 7] } }
    (s.displace 7000).adu.displaced = [4, 11, 2] := by decide +kernel

/-- R59: a settle window of 3 s that has run puts the entry ON with load-not-seen. -/
theorem test_expiry :
    (after (.reservationExpiry 0) reserved3).load 3
      = { fields := { Fields.none with wanted := true, watts := 800 }, state := .on,
          notSeen := true } := by decide +kernel

/-- Section 5.7: wanted set on an entry in OFF queues it. -/
theorem test_write_entry :
    let t := after (.writeEntry .h 5 1 1200 (some 0x21)) run
    t.entryState 5 = .waiting ∧ t.adu.queue = [5]
      ∧ t.posted = [.noticeDelivery .entryChanged 5 1] := by decide +kernel

/-- Section 5.8: an essential entry refuses the fill with CONFLICT, another takes it. -/
theorem test_fill :
    let s := { run with
      ltc :=
        { run.ltc with
          masks := ⟨0x38, 0x38, 0x38⟩
          fills := ⟨Fields.none, Fields.none,
            { Fields.none with deferrable := true, member := true, watts := 2400 }⟩ } }
    let s := s.setLoad 9 { Load.rest with fields := { Fields.none with essential := true } }
    ((after (.fillEntries .h 8 0b0011) s).port .h).tx
      = .ready 100000000 { code := 0x24, result := .done, waiting := 0, data := [0x00, 0x11] } := by
  decide +kernel

/-- R91, R92: placement at the head and after an anchor, and removal. -/
theorem test_chain :
    (after (.chainPlace .h 4 0xFF) dry).ltc.chain = [4, 9, 11, 2, 7]
      ∧ (after (.chainPlace .h 9 2) dry).ltc.chain = [4, 11, 2, 9, 7]
      ∧ (after (.chainRemove .h 11) dry).ltc.chain = [9, 4, 2, 7] := by decide +kernel

/-- Section 6.9: the fast record sheds 4 at once; the tenth short record sheds it too. -/
theorem test_shed :
    (after (.recordAtShed recFast) dry).shc.stack = [4]
      ∧ (after (.recordAtShed recShort)
          { dry with shc := { dry.shc with state := .confirming, count := 9 } }).shc.stack = [4] := by
  decide +kernel

/-- Section 6.9, 39,020 ms: the stack is returned from its top. -/
theorem test_recovery :
    let s := put (put run 4 .shedUnderfrequency 3000) 11 .shedUnderfrequency 2500
    let s := { s with
      shc := { s.shc with state := .recoveryHold, stack := [4, 11], recovery := some 70000000 } }
    (after .recoveryHoldExpiry s).adu.queue = [11, 4]
      ∧ (after .recoveryHoldExpiry s).shc.state = .normal := by decide +kernel

/-- Section 6.10: line loss takes the saw to OFF and the others to SHED (LINE LOSS). -/
theorem test_line_loss :
    let t := after .lineLossRequest (put sawDelta 2 .on 2000)
    t.entryState 2 = .shedLineLoss ∧ t.entryState 14 = .off
      ∧ Instr.stopFromLoadTable .lineLoss ∈ t.posted := by decide +kernel

/-- Section 6.10, 16,080 ms: the mill house goes to the head of the queue. -/
theorem test_restart :
    let s := put (put (put run 2 .shedLineLoss 2000) 15 .shedLineLoss 500) 4 .shedLineLoss 3000
    let s := { s with shc := { s.shc with restartPending := true, restart := some 90000000 } }
    (after .restartHoldExpiry s).adu.queue = [15, 2, 4] := by decide +kernel

/-- Section 7.10: the crossing at 60 minutes lands on 38 with value 102, that at 450 on 0. -/
theorem test_crossing :
    let split := some { half := .high, tap := 6, page := 3 : Split }
    let s := rota 31
    let s := { s with rtp := { s.rtp with split := split, seconds := 900 } }
    let t := after .slotTimerExpiry s
    t.rtp.pointer = 38 ∧ Instr.noticeDelivery .rotaCrossed 0 102 ∈ t.posted ∧ t.rtp.split = none := by
  decide +kernel

/-- Section 7.10: a split at pointer 29 goes into HIGH and leaves slot 29; at 31 it is too close. -/
theorem test_split :
    let t := after (.rotaSplit .h 1 4) (rota 29)
    t.rtp.buffer.get 38 = 0b00011110001111 ∧ t.rtp.buffer.get 29 = 0b1111111
      ∧ t.rtp.split = some { half := .high, tap := 4, page := 1 }
      ∧ ((after (.rotaSplit .h 1 0) (rota 31)).port .h).tx
          = .ready 100000000 { code := 0x42, result := .tooClose, waiting := 0, data := [] } := by
  decide +kernel

/-- Section 7.10, 0 min: exclusion of a member that is ON. -/
theorem test_slot :
    let s := (rota 28).setLoad 7
      { fields := { Fields.none with wanted := true, member := true, watts := 1000 }, state := .on,
        notSeen := false }
    (after (.slotApplication 0b1111111) s).entryState 7 = .rotaOff := by decide +kernel

/-- Section 8.8: values 35, 52, 69 and 176 of SAW STAGE. -/
theorem test_saw_run :
    (after .starDwellExpiry sawStar).posted = [.noticeDelivery .sawStage 14 35]
      ∧ (after .deadTimeExpiry sawChange).posted = [.noticeDelivery .sawStage 14 52]
      ∧ (after (.sawStop .s) sawDelta).posted = [.noticeDelivery .sawStage 14 69]
      ∧ (after (.auxChange .main false) sawStopping).posted
          = [.noticeDelivery .sawStage 14 176, .sawStoppedReport] := by decide +kernel

/-- Section 8.8: AUX_STAR slow, K_DELTA is closed at its report. -/
theorem test_slow_star :
    let s := { sawChange with
      sws := { sawChange.sws with dead := none, aux := ⟨true, true, false⟩ } }
    (after (.auxChange .star false) s).sws.stage = .delta := by decide +kernel

/-- Section 8.9: the welded star contactor. -/
theorem test_welded :
    let s := { sawChange with
      timebase := 100070000, sws := { sawChange.sws with dead := none, aux := ⟨true, true, false⟩ } }
    let t := after (.checkTimerExpiry .star) s
    t.sws.stage = .fault ∧ t.sws.latch = true
      ∧ Instr.noticeDelivery .sawStage 14 198 ∈ t.posted := by decide +kernel

/-- Section 8.9: CLEAR SAW FAULT with every auxiliary open gives SAW STAGE value 224. -/
theorem test_clear_saw_fault :
    (after (.clearSawFault .s) sawFault).posted = [.noticeDelivery .sawStage 14 224] := by
  decide +kernel

/-- Section 9.7, record 7: the third record at or above the limit trips. -/
theorem test_overspeed :
    let s := { run with tsv := { run.tsv with lineCount := 2, satCount := 5 } }
    let r := { rec1 with f := 58900, e := 5000, d := 1000, satHigh := true, time := 5 }
    let t := after (.recordAtTurbine r) s
    t.tsv.latch = true ∧ t.tsv.lineCount = 0 ∧ t.tsv.satCount = 6
      ∧ Instr.noticeDelivery .gateAdvice 0 3 ∈ t.posted ∧ Instr.noticeDelivery .trip 0 1 ∈ t.posted := by
  decide +kernel

/-- Section 9.7, 41 s: the reset is taken; a = 990, advice CLOSE with excess 665. -/
theorem test_trip_reset :
    let t := after (.tripReset .g) tripped
    t.tsv.latch = false ∧ t.tsv.direction = .closeGate ∧ t.tsv.excess = 665
      ∧ Instr.noticeDelivery .gateAdvice 0 1 ∈ t.posted := by decide +kernel

/-- Section 9.8: GATE CLOSE 30 of 50, then 40 grants 20. -/
theorem test_tokens :
    let t := after (.gateClose .g 30) run
    t.tsv.tokens = 20 ∧ t.tsv.accrual = some 100000000
      ∧ ((after (.gateClose .g 40) t).port .g).tx
          = .ready 100000000 { code := 0x51, result := .done, waiting := 0, data := [20] } := by
  decide +kernel

/-- Section 9.8: a held reservation refuses with amount 0. -/
theorem test_reservation_held :
    ((after (.gateClose .g 10) reserved3).port .g).tx
      = .ready 100000000
          { code := 0x51, result := .reservationHeld, waiting := 0, data := [0] } := by decide +kernel

/-- Section 10.6: hold cleared flushes slots 0 and 4 into a queue of 14. -/
theorem test_flush :
    let x (k : NoticeKind) : Notice := { kind := k, subject := 0, value := 1, time := 0 }
    let n :=
      { NoticePort.reset routeH with hold := true, queue := List.replicate 14 (x .lineState) }
    let n := ((n.deliver (x .rotaCrossed)).deliver (x .shedState)).deliver (x .entryChanged)
    let m := n.control true false routeH 0
    m.queue.length = 16 ∧ m.slot .rotaCrossed = some (x .rotaCrossed) ∧ m.slot .shedState = none := by
  decide +kernel

/-- Section 10.7: silence on port S stops the saw with value 165. -/
theorem test_silence :
    Instr.noticeDelivery .sawStage 14 165 ∈ (after (.presenceTimerExpiry .s) (silent .s)).posted
      ∧ ((after (.presenceTimerExpiry .s) (silent .s)).port .s).present = false := by decide +kernel

/-- A good frame is handed to its owner, and one with a wrong CRC is a FRAME CHECK. -/
theorem test_frames :
    (feed .h false [0xC3, 0x01, 0x04, 0x6E, 0xBA] run).posted = [.readFaults .h]
      ∧ ((feed .h false [0xC3, 0x01, 0x04, 0x6E, 0xBB] run).port .h).faults.status = 0b000100 := by
  decide +kernel

/-- R159, R156: an unknown code is answered UNKNOWN and recorded. -/
theorem test_unknown_code :
    ((feed .h false ([0xC3, 0x01, 0x77] ++ Half.bytes (crc16 [0x01, 0x77])) run).port .h).tx
      = .ready 100000000 { code := 0x77, result := .unknown, waiting := 0, data := [] } := by
  decide +kernel

/-- Section 11.5: a blank store defaults the settings, and the ALARM goes on. -/
theorem test_start_up :
    let t := after .settingsLoadEnd State.reset
    t.phase = .running ∧ t.flu.alarm = true ∧ t.brg.state = .holding ∧ t.tsv.runPermit = true
      ∧ t.shc.lineLoss = some 0 := by decide +kernel

/-- Section 2.5: Ki 5,000 is clamped to 4,095 in the shadow, the active copy stands. -/
theorem test_write_setting :
    let t := after (.writeSetting .g 0 2 0 5000) regulating
    t.brg.shadow.ki = 4095 ∧ t.brg.active.ki = 64
      ∧ (t.port .g).tx
          = .ready 100000000 { code := 0x11, result := .clamped, waiting := 0, data := [] } := by
  decide +kernel

/-- R173: CLEAR FAULTS clears the named kinds alone. -/
theorem test_clear_faults :
    (after (.clearFaults .g 0x0003) { run with flu := { run.flu with status := 0b111 } }).flu.status
      = 0b100 := by decide +kernel

/-- R175: LINE LOST is recorded with the line LINE ABSENT and f 0, also when an edge has been taken since. -/
theorem test_snapshot_own :
    let s := after .absenceTimerExpiry
      { regulating with lnm := { regulating.lnm with absence := some 99960000 } }
    let t := after (.faultRaise ⟨.lineLost, .line .absent 0⟩) (after (.lineZcEdge .rising) s)
    Instr.faultRaise ⟨.lineLost, .line .absent 0⟩ ∈ s.posted
      ∧ t.lnm.state = .establishing
      ∧ t.flu.snapshot.map (fun x => (x.line, x.f)) = some (.absent, 0) := by decide +kernel

/-- R68, R131, R136: at the end of the saw wait entry 14 stays WAITING until the report, a SAW START then
is refused with STATE, an examination finds circuit 3, and the report takes entry 14 out. -/
theorem test_saw_wait :
    let s := after .sawWaitExpiry { admission with timebase := 160000000 }
    let g := after (.recordAtAdmission { rec0 with time := 160000000 }) s
    s.sws.stage = .off ∧ s.entryState 14 = .waiting
      ∧ ((after (.sawStart .s 14000 0) s).port .s).tx
          = .ready 160000000 { code := 0x30, result := .state, waiting := 0, data := [] }
      ∧ g.entryState 3 = .reserved 0 ∧ g.entryState 14 = .waiting
      ∧ (after .sawStoppedReport g).entryState 14 = .off ∧ (after .sawStoppedReport g).adu.saw = none
      ∧ (after .sawStoppedReport g).adu.queue = [] := by decide +kernel

/-- R108, R115: a shed's ENTRY CHANGED goes ahead of SHED STATE, and ROTA CROSSED ahead of the ENTRY
CHANGED of the slot's application. -/
theorem test_notice_order :
    let shed := (after (.recordAtShed recFast) dry).posted
    let crossed := [Instr.noticeDelivery .rotaCrossed 0 32, .noticeDelivery .entryChanged 7 259]
    shed = [.noticeDelivery .entryChanged 4 (4 + 16 * 7), .noticeDelivery .shedState 0 2]
      ∧ headOfChannel shed (.noticeDelivery .shedState 0 2)
          = .noticeDelivery .entryChanged 4 (4 + 16 * 7)
      ∧ headOfChannel crossed (.noticeDelivery .entryChanged 7 259)
          = .noticeDelivery .rotaCrossed 0 32 := by decide +kernel

/-- R168: a mask, a severity or the threshold outside 0 and 1 is clamped. -/
theorem test_coded :
    codedValue (-1) = (false, .clamped) ∧ codedValue 0 = (false, .done)
      ∧ codedValue 1 = (true, .done) ∧ codedValue 2 = (true, .clamped) := by decide

/-- R144: leaving REGULATING before any record sets the last SAT HIGH to clear; a change between two other
states leaves it absent. -/
theorem test_sat_high_clear :
    let left := after (.regStateAtTurbine (chg .holding)) (after (.regStateAtTurbine (chg .regulating)) run)
    left.tsv.lastSatHigh = some false
      ∧ (after (.regStateAtTurbine (chg .stopped)) run).tsv.lastSatHigh = none := by decide

/-- R148, R154: with the shaft limit 0 there is no shaft period to show; with one there is. -/
theorem test_shaft_period :
    let s := { run with tsv := { run.tsv with lastPulse := some 99999991, prevPulse := some 99999981 } }
    let limit := { s with
      settings :=
        { s.settings with supervision := { s.settings.supervision with shaftLimit := 10 } } }
    s.lastShaftPeriod = 0 ∧ limit.lastShaftPeriod = 10 := by decide

/-- `midFrame` seen at another time. -/
def midFrameAt (t : Time) : State := { midFrame with timebase := t }

/-- R160: a gap of 12,001 µs is no break; one of 2,000 µs ends no frame. -/
theorem test_gap_no_break :
    (midFrameAt 100011001).gapIsNoBreak .s = true ∧ (midFrameAt 100011000).gapIsNoBreak .s = false := by
  decide

/-- R160: a break that begins within 2 ms of a frame's last byte, 10 ms later, discards the partial frame and
leaves no FRAME TIMEOUT; by its own time the block brings none before it. -/
theorem test_break_in_frame :
    let s := midFrameAt 100010999
    s.gapIsNoBreak .s = false ∧ ((after (.lineBreak .s) s).port .s).faults = (midFrame.port .s).faults
      ∧ ((after (.lineBreak .s) s).port .s).rx.mode = .hunt := by decide +kernel

/-- R33: BALLAST SATURATED at the fiftieth update of a run of SAT HIGH, at the next one only when its status
has been cleared since; with Rtot 0 BALLAST NONE comes after it (log 55). -/
theorem test_saturated :
    let at' (count : Nat) (status : BitVec 13) (banks : PerBank BankParams) := { regulating with
      brg :=
        { regulating.brg with
          d := 1000, satCount := count, active := { plant with banks := banks } }
      flu := { regulating.flu with status := status } }
    let raised (s : State) :=
      ((after (.regulationUpdate { period := 19990, present := some (79920, 50050) }) s).posted.take 2).map
        fun
        | .faultRaise x => some x.kind
        | _ => none
    let none' : PerBank BankParams := ⟨⟨0, true⟩, ⟨0, true⟩, ⟨0, true⟩⟩
    raised (at' 49 0x40 plant.banks) = [some .ballastSaturated, none]
      ∧ raised (at' 50 0x40 plant.banks) = [none, none]
      ∧ raised (at' 50 0 none') = [some .ballastSaturated, some .ballastNone] := by decide +kernel

/-- R20, R38: the demand of the load reaches the Bank Firing Unit as a demand change, also with regulation
enable no and a start demand of 0, and the unit forms its allocation from it. -/
theorem test_start_demand :
    let s := { State.reset with
      brg :=
        (State.reset.brg.load { plant with enable := false, startDemand := 0 }), phase := .running }
    let c : DemandChange := { d := 0, wd := 0, banks := some plant.banks }
    s.giveDemand.completeStartUp.posted.filter (· matches .demandChange _) = [.demandChange c]
      ∧ s.giveDemand.completeStartUp.brg.state = .stopped
      ∧ (after (.demandChange c) s.giveDemand.completeStartUp).bfu.next = some ⟨0, 0, 0⟩ := by
  decide +kernel

/-- R38: the end of the load gives the demand also where D and Wd already stood at its values. -/
theorem test_load_demand :
    let t := after .settingsLoadEnd State.reset
    let s := { State.reset with brg := { State.reset.brg with d := t.brg.d, wd := t.brg.wd } }
    (after .settingsLoadEnd s).posted.filter (· matches .demandChange _)
      = [.demandChange { d := t.brg.d, wd := t.brg.wd, banks := some t.brg.active.banks }] := by
  decide +kernel

/-- R146: a trip-area write that has ended is read back by the load; one whose check does not match is
not. -/
theorem test_trip_area (latch : Bool) (record : Option TripRecord) (check : BitVec 16)
    (h : check ≠ areaCheck latch record) :
    (AreaWrite.stored { start := 0, latch := latch, record := record }).contents = some (latch, record)
      ∧ (TripArea.written latch record check).contents = none := by
  simp [TripArea.contents, AreaWrite.stored, h]

/-- R176: 2,699 mV is below the threshold of 2.70 V, 2,700 mV is not. -/
theorem test_brown_out :
    (after (.fullResetAssert (.supplyAt 2699)) run).phase = .held
      ∧ (after (.fullResetAssert (.supplyAt 2699)) run).supply.cause = .brownOut
      ∧ (after (.fullResetAssert (.supplyAt 2700)) run).phase = .running := by decide +kernel

/-! ### Witnesses: states and operands that meet the hypotheses of the statements -/

/-- In service with circuit 5 RESERVED, circuit 6 and the saw WAITING, circuit 4 in the chain, and the
rota playing page 0 from slot 28 with a split pending: what commands made of `run`. -/
def busy : State :=
  after (.rotaSplit .h 1 4) <| after (.rotaStart .h 0 28) <| after (.chainPlace .h 4 0xFF) <|
    after (.sawStart .s 14000 0) <| after (.recordAtAdmission rec0) <|
    after (.writeEntry .h 6 1 900 (some 0x21)) <| after (.writeEntry .h 5 1 1200 (some 0x21)) run

theorem witness_saw_law : SawLaw sawStar ∧ step sawStar = .next sawStar.idle :=
  ⟨by unfold SawLaw; decide +kernel, rfl⟩

theorem witness_permit_law : PermitLaw run ∧ ∃ t, step run = .next t :=
  ⟨by unfold PermitLaw; decide, step_next _⟩

theorem witness_alarm_law :
    AlarmLaw (after .settingsLoadEnd State.reset)
      ∧ ∃ t, step (after .settingsLoadEnd State.reset) = .next t :=
  ⟨by unfold AlarmLaw; decide +kernel, step_next _⟩

theorem witness_load_law : LoadLaw busy ∧ ∃ t, step busy = .next t :=
  ⟨by unfold LoadLaw; decide +kernel, step_next _⟩

theorem witness_chain_law : ChainLaw busy ∧ ∃ t, step busy = .next t :=
  ⟨by unfold ChainLaw; decide +kernel, step_next _⟩

theorem witness_admission_law : AdmissionLaw busy ∧ ∃ t, step busy = .next t :=
  ⟨by unfold AdmissionLaw; decide +kernel, step_next _⟩

theorem witness_timer_law : TimerLaw busy ∧ ∃ t, step busy = .next t := by
  refine ⟨?_, step_next _⟩
  unfold TimerLaw
  refine ⟨by decide +kernel, by decide +kernel, by decide +kernel, by decide +kernel, ?_⟩
  intro x h
  have hs : busy.rtp.split = some { half := .high, tap := 4, page := 1 } := by decide +kernel
  obtain rfl := Option.some.inj (hs.symm.trans h)
  decide +kernel

theorem witness_regulator_law : RegulatorLaw regulating ∧ ∃ t, step regulating = .next t :=
  ⟨by unfold RegulatorLaw; decide +kernel, step_next _⟩

theorem witness_firing_law : FiringLaw regulating ∧ ∃ t, step regulating = .next t :=
  ⟨by unfold FiringLaw; decide +kernel, step_next _⟩

theorem witness_settings_law : SettingsLaw run ∧ ∃ t, step run = .next t := by
  refine ⟨?_, step_next _⟩
  refine ⟨?_, ?_, ⟨?_, ?_, ?_, ?_, ?_⟩, ?_, ?_, ?_, ?_, ?_, ?_⟩
  · unfold RegParams.InRange; decide
  · unfold RegParams.InRange; decide
  · unfold SupervisionSettings.InRange; decide
  · unfold AdmissionSettings.InRange; decide
  · intro p; cases p <;> decide
  · decide
  · decide
  · decide +kernel
  · intro p; cases p <;> decide
  · intro d h; exact nomatch (h : (none : Option ImageData) = some d)
  · intro t d h; exact SaveState.noConfusion h
  · decide
  · decide

theorem witness_store_law : StoreLaw writing ∧ ∃ t, step writing = .next t := by
  refine ⟨⟨fun _ t d h => SaveState.noConfusion h, fun _ => rfl⟩, step_next _⟩

theorem witness_receiver_law : ReceiverLaw midFrame ∧ ∃ t, step midFrame = .next t := by
  refine ⟨fun p => ?_, step_next _⟩
  cases p <;> exact rfl

theorem witness_bound_law : BoundLaw run ∧ ∃ t, step run = .next t := by
  refine ⟨⟨fun p => ?_, by decide, by decide⟩, step_next _⟩
  cases p <;> decide

/-- StartUpIgnoresCommands. -/
theorem witness_start_up : State.reset.phase ≠ .running := by decide

/-- OnlyGrantsReserve: the record of section 4.10 takes the saw into RESERVED. -/
theorem witness_grants :
    exec (.recordAtAdmission rec0) admission = .next (after (.recordAtAdmission rec0) admission)
      ∧ admission.entryState 14 ≠ .reserved 0
      ∧ (after (.recordAtAdmission rec0) admission).entryState 14 = .reserved 0 :=
  ⟨rfl, by decide +kernel, by decide +kernel⟩

/-- OnlyResetClearsTrip: the reset of section 9.7 at 41 s. -/
theorem witness_clears_trip :
    exec (.tripReset .g) tripped = .next (after (.tripReset .g) tripped)
      ∧ tripped.tsv.latch = true ∧ (after (.tripReset .g) tripped).tsv.latch = false :=
  ⟨rfl, by decide, by decide +kernel⟩

/-- OnlySavesChangeStore: a save that agrees, and a trip-area write's end, each change the store. -/
theorem witness_store_changes :
    exec (.saveEnd true) saving = .next (after (.saveEnd true) saving)
      ∧ (after (.saveEnd true) saving).sst.image ≠ saving.sst.image
      ∧ exec .tripAreaWriteEnd writing = .next (after .tripAreaWriteEnd writing)
      ∧ (after .tripAreaWriteEnd writing).sst.tripArea ≠ writing.sst.tripArea := by
  refine ⟨rfl, ?_, rfl, ?_⟩
  · intro h; exact Image.noConfusion (h : Image.written _ _ = Image.blank)
  · intro h; exact TripArea.noConfusion (h : TripArea.written _ _ _ = TripArea.blank)

/-- DeltaClosesAfterStarOpens: the dead time's end of section 8.8. -/
theorem witness_delta :
    exec .deadTimeExpiry sawChange = .next (after .deadTimeExpiry sawChange)
      ∧ sawChange.sws.commands.delta = false
      ∧ (after .deadTimeExpiry sawChange).sws.commands.delta = true :=
  ⟨rfl, by decide, by decide +kernel⟩

/-- PortsAreApart, each of its five events. -/
theorem witness_ports_apart :
    Port.s ≠ Port.h
      ∧ exec (.rxByte .h 0xC3 false) run = .next (after (.rxByte .h 0xC3 false) run)
      ∧ exec (.frameTimeout .s) midFrame = .next (after (.frameTimeout .s) midFrame)
      ∧ exec (.lineBreak .h) run = .next (after (.lineBreak .h) run)
      ∧ exec (.responseStart .s) answered = .next (after (.responseStart .s) answered)
      ∧ exec (.responseEnd .s) sendingS = .next (after (.responseEnd .s) sendingS) :=
  ⟨by decide, rfl, rfl, rfl, rfl, rfl⟩

/-- EveryRequestIsAnswered. -/
theorem witness_answered :
    (Instr.sawStart .s 14000 0).asRequest = some (.sawStart, .s, [0x36, 0xB0, 0])
      ∧ run.serves .sawStart .s := ⟨by decide, by unfold State.serves; decide⟩

/-- RoleIsChecked: GATE OPEN from port S. -/
theorem witness_denied :
    (Instr.gateOpen .s 5).asRequest = some (.gateOpen, .s, [5]) ∧ run.phase = .running
      ∧ RequestName.gateOpen.permits .s (run.setupAt .s) = false := by decide

/-- RequestsReadBack: the longest request, eight slot records. -/
theorem witness_read_back :
    (Instr.rotaWrite .h 0 8 (List.replicate 8 0x007F)).wf = true
      ∧ (Instr.rotaWrite .h 0 8 (List.replicate 8 0x007F)).asRequest
          = some (.rotaWrite, .h, [0, 8, 8] ++ (List.replicate 8 [0x00, 0x7F]).flatten) := by
  decide +kernel

/-- FrameReachesOwner: ROTA WRITE of port G under the setup key, the port ABSENT or PRESENT. -/
theorem witness_frame :
    (Instr.rotaWrite .g 0 8 [0x007F]).wf = true
      ∧ (Instr.rotaWrite .g 0 8 [0x007F]).asRequest = some (.rotaWrite, .g, [0, 8, 1, 0x00, 0x7F])
      ∧ run.phase = .running ∧ RequestName.rotaWrite.permits .g true = true
      ∧ (run.port .g).rx.mode = .hunt ∧ (run.port .g).rx.bytes = [] ∧ (run.port .g).tx = .idle := by
  decide +kernel

/-- FullResetTaken: below the threshold by 1 mV and the other triggers; at it; above it by 1 mV with RST_N
high; and each way a release does nothing. -/
theorem witness_full_reset :
    (∀ mv, ResetTrigger.supplyAt 2699 = .supplyAt mv → mv < run.threshold)
      ∧ (∀ mv, ResetTrigger.rstLow = .supplyAt mv → mv < run.threshold)
      ∧ (∀ mv, ResetTrigger.supplyApplied = .supplyAt mv → mv < run.threshold)
      ∧ run.threshold ≤ 2700
      ∧ (after (.fullResetAssert .rstLow) run).phase = .held
      ∧ (after (.fullResetAssert .rstLow) run).threshold < 2701
      ∧ run.phase ≠ .held ∧ 2700 ≤ (after (.fullResetAssert .rstLow) run).threshold := by
  refine ⟨?_, ?_, ?_, by decide, by decide +kernel, by decide +kernel, by decide, by decide +kernel⟩
  · intro mv h; injection h with h; subst h; decide
  · intro mv h; exact ResetTrigger.noConfusion h
  · intro mv h; exact ResetTrigger.noConfusion h

/-- SettingsLoadTaken, with a blank image, and with a trip area that a write has left. -/
theorem witness_load :
    let w : AreaWrite := { start := 0, latch := true, record := none }
    let s := { State.reset with sst := { State.reset.sst with tripArea := w.stored } }
    State.reset.phase = .starting ∧ State.reset.brg.state = .stopped
      ∧ State.reset.brg.line = .absent ∧ State.reset.sst.image.contents = none
      ∧ s.phase = .starting ∧ s.sst.tripArea.contents = some (true, none) := by
  refine ⟨by decide, by decide, by decide, rfl, rfl, ?_⟩
  simp [TripArea.contents, AreaWrite.stored]

/-- Start-up with 4,095 good windows behind it, and with the no-good-window timer at 100 ms. -/
def qualifying : State :=
  { State.reset with
    timebase := 100000, rfm := { State.reset.rfm with goodWindows := 4095, noGood := some 0 } }

/-- ReferenceIsJudged: each clause at its boundary (128 cycles, 4,096 windows, 127 cycles, 100 ms). -/
theorem witness_reference :
    State.reset.phase ≠ .held ∧ State.reset.rfm.state = .starting
      ∧ State.reset.rfm.goodWindows + 1 ≠ 4096 ∧ qualifying.phase ≠ .held
      ∧ qualifying.rfm.state = .starting ∧ qualifying.rfm.goodWindows + 1 = 4096
      ∧ run.phase ≠ .held ∧ run.rfm.state = .crystal ∧ 128 ≤ 128 ∧ 127 < 128
      ∧ qualifying.rfm.noGood = some 0 ∧ 100000 ≤ qualifying.elapsed 0 := by decide

/-- RetryReferenceTaken: in REF FALLBACK, in REF CRYSTAL, and from port H. -/
theorem witness_retry :
    (after (.checkWindowEnd 127) run).phase = .running
      ∧ (after (.checkWindowEnd 127) run).rfm.state = .fallback
      ∧ run.phase = .running ∧ run.rfm.state ≠ .fallback ∧ Port.h ≠ Port.g := by decide +kernel

/-- LineEdgeTaken: an edge 5,999 µs after another, one 6,000 µs after, and the edge of section 1.7. -/
theorem witness_edge :
    let early := { run with
      lnm := { run.lnm with lastEdge := some { polarity := .rising, time := 99994001 } } }
    let due := { run with
      lnm :=
        { run.lnm with
          state := .present, lastEdge := some { polarity := .rising, time := 99994000 } } }
    early.phase = .running ∧ early.elapsed 99994001 < 6000
      ∧ due.phase = .running ∧ due.lnm.state ≠ .absent
      ∧ (∀ x, due.lnm.lastEdge = some x → x.polarity = .rising ∧ 6000 ≤ due.elapsed x.time)
      ∧ regulating.lnm.state = .present ∧ regulating.lnm.discard = false
      ∧ regulating.lnm.lastRise = some 99980010
      ∧ (∀ x, regulating.lnm.lastEdge = some x →
          x.polarity = .falling ∧ 6000 ≤ regulating.elapsed x.time)
      ∧ regulating.lnm.ring = [20000, 19980, 19980, 19970]
      ∧ regulating.elapsed 99980010 = 19990 ∧ 79920 = 19980 + 19980 + 19970 + 19990
      ∧ 50050 = (4000000000 + 79920 / 2) / 79920 := by
  refine ⟨by decide, by decide, by decide, by decide, ?_, by decide, by decide, by decide, ?_, by decide,
    by decide, by decide, by decide⟩
  · intro x h; obtain rfl := Option.some.inj h; decide
  · intro x h; obtain rfl := Option.some.inj h; decide

/-- LineIsLostOrSwitched: 40 ms since the last accepted edge; the three line states. -/
theorem witness_line_lost :
    let s := { regulating with
      lnm := { regulating.lnm with absence := some 99960000 } }
    let e := { run with lnm := { run.lnm with state := .establishing } }
    s.phase = .running ∧ s.lnm.state ≠ .absent ∧ s.lnm.absence = some 99960000
      ∧ 40000 ≤ s.elapsed 99960000 ∧ s.lnm.state = .present ∧ run.phase ≠ .held
      ∧ run.lnm.state = .absent ∧ e.phase ≠ .held ∧ e.lnm.state = .establishing := by decide

/-- UpdateIsComputed (the raises at their counts are test_saturated) and WattsFollowDemand: the first worked
update of section 2.4; and with a transfer waiting. -/
theorem witness_update :
    let s := { regulating with brg := { regulating.brg with transferEnable := true } }
    regulating.phase = .running ∧ regulating.brg.state = .regulating
      ∧ regulating.brg.active.enable = true ∧ regulating.brg.transferEnable = false
      ∧ (50 : Int) = max (-5000) (min 5000 ((50050 : Int) - regulating.brg.active.fSet))
      ∧ s.brg.transferEnable = true ∧ s.brg.shadow.enable = true := by decide

/-- RegulationStatesFollow: in REGULATING, and in HOLDING. -/
theorem witness_regulation_states :
    regulating.phase = .running ∧ regulating.brg.state = .regulating
      ∧ regulating.brg.active.enable = true ∧ regulating.brg.transferEnable = false
      ∧ run.phase = .running ∧ run.brg.state = .holding ∧ run.brg.active.enable = true := by decide

/-- BanksAreFired: a known allocation, a pulse due now, one that has run 250 µs; banks without watts; a
fired bank; and the ends of the filling clause. -/
theorem witness_banks :
    let s := { regulating with
      bfu :=
        { regulating.bfu with
          next := some ⟨1000, 545, 0⟩, schedule := ⟨some 100000000, none, none⟩
          gates := ⟨none, some 99999750, none⟩ } }
    s.phase = .running ∧ s.bfu.state = .firing ∧ s.bfu.next = some ⟨1000, 545, 0⟩
      ∧ s.bfu.schedule.get 0 = some 100000000 ∧ s.elapsed 100000000 < 2 ^ 31
      ∧ s.bfu.gates.get 1 = some 99999750 ∧ 250 ≤ s.elapsed 99999750
      ∧ (chg .holding).state ≠ .stopped ∧ s.bfu.line ≠ .absent ∧ rtotOf s.bfu.banks ≠ 0
      ∧ rtotOf ⟨⟨6000, false⟩, ⟨0, true⟩, ⟨0, true⟩⟩ = 0 ∧ (bankSetOf 9990 545).mark = .fired
      ∧ plant.banks.b0.available = true ∧ 0 < plant.banks.b0.rating
      ∧ plant.banks.b0.rating ≤ 6000 ∧ 5999 < plant.banks.b0.rating := by decide +kernel

/-- HeadIsGranted: circuit 3 alone at the head, its 800 W the whole headroom. -/
theorem witness_head :
    let r := { rec0 with floor := 2800 }
    waiting3.phase = .running ∧ waiting3.adu.queue = [3] ∧ (3 : Entry) ≠ sawEntry
      ∧ waiting3.entryState 3 = .waiting
      ∧ (∀ x ∈ waiting3.adu.table, ¬ ((x.watts + 1) / 2 : Nat) ≤ (x.wdRef : Int) - r.wd)
      ∧ freeSlot waiting3.adu.table = some 0 ∧ waiting3.adu.table.length < 4
      ∧ waiting3.spacingElapsed = true ∧ waiting3.shc.state = .normal ∧ waiting3.tsv.latch = false
      ∧ ((waiting3.load 3).fields.watts : Int)
          ≤ (r.floor : Int) - waiting3.reserveEff - heldWatts waiting3.adu.table := by decide +kernel

/-- HeadIsGranted, the saw: its 14,000 W the whole headroom, one watt short with circuits 4, 11, 2 and 7 ON and
deferrable in the chain, and circuit 3 arriving at half its watts. -/
theorem witness_head_saw :
    let on (s : State) (e : Entry) (w : Nat) :=
      s.setLoad e
        { fields := { Fields.none with wanted := true, deferrable := true, watts := w }, state := .on,
          notSeen := false }
    let q : SawRequest :=
      { surge := 14000, displace := true, displaced := false, inserted := 100000000, refused := false }
    let s := on (on (on (on admission 4 3000) 11 2500) 2 2000) 7 1200
    let s := { s with
      ltc := { s.ltc with chain := [9, 4, 11, 2, 7] }, adu := { s.adu with saw := some q } }
    let fits := { rec0 with floor := 16000 }
    let short := { rec0 with floor := 15999 }
    let seen := { rec0 with wd := 10700 }
    s.phase = .running ∧ s.adu.queue = sawEntry :: [3] ∧ s.adu.saw = some q ∧ q.refused = false
      ∧ s.entryState sawEntry = .waiting ∧ s.adu.table = [] ∧ freeSlot s.adu.table = some 0
      ∧ s.spacingElapsed = true ∧ s.shc.state = .normal ∧ s.tsv.latch = false
      ∧ (q.surge : Int) ≤ (fits.floor : Int) - s.reserveEff - heldWatts s.adu.table
      ∧ q.displace = true ∧ q.displaced = false ∧ s.sws.stage = .waiting ∧ s.ltc.chain.Nodup
      ∧ s.ltc.chain.filter (fun e => decide (s.entryState e = .on) && (s.load e).fields.deferrable)
          = [4, 11, 2, 7]
      ∧ q.surge - ((short.floor : Int) - s.reserveEff - heldWatts s.adu.table) = 1
      ∧ reserved3.phase = .running ∧ reserved3.adu.queue = []
      ∧ (∀ x ∈ reserved3.adu.table, ((x.watts + 1) / 2 : Nat) ≤ (x.wdRef : Int) - seen.wd) := by
  decide +kernel

theorem witness_head_law : AdmissionLaw reserved3 := by unfold AdmissionLaw; decide +kernel

/-- RegulationStateSetsFloor, StepTakesFrontCommand's kin: any running state. -/
theorem witness_running : run.phase = .running := by decide

/-- AdmissionTimersExpire: a window of 3 s that has run, a grant of 30 s ago, a wait of 60 s. -/
theorem witness_admission_timers :
    let r : Reservation :=
      { slot := 0, entry := 3, watts := 800, wdRef := 11100, time := 97000000, origin := .restore }
    let g := { run with adu := { run.adu with lastGrant := some 70000000 } }
    let q : SawRequest :=
      { surge := 14000, displace := false, displaced := false, inserted := 40000000
        refused := false }
    let w := { admission with adu := { admission.adu with saw := some q } }
    reserved3.phase = .running ∧ r ∈ reserved3.adu.table
      ∧ reserved3.adu.table.filter (fun x => x.slot = 0) = [r]
      ∧ reserved3.entryState r.entry = .reserved 0
      ∧ reserved3.settings.admission.settleWindow * 1000 ≤ reserved3.elapsed r.time
      ∧ g.adu.lastGrant = some 70000000 ∧ 30000000 ≤ g.elapsed 70000000
      ∧ w.phase = .running ∧ w.adu.saw = some q ∧ q.refused = false
      ∧ w.settings.admission.sawWaitLimit * 1000000 ≤ w.elapsed q.inserted
      ∧ w.entryState sawEntry = .waiting ∧ w.sws.stage = .waiting ∧ w.adu.displaced = [] := by
  decide +kernel

/-- EntriesAreWritten, FILL ENTRIES: entry 11 alone of the group of 8; 12 and 13 by a mask of deferrable
and watts, none of them a conflict; entry 9, essential, by a mask with member; base 3. -/
theorem witness_fills :
    let fill : Fields := { Fields.none with deferrable := true, member := true, watts := 30000 }
    let s := { run with
      ltc := { run.ltc with masks := ⟨0x28, 0x28, 0x28⟩, fills := ⟨fill, fill, fill⟩ } }
    let c := s.setLoad 9 { Load.rest with fields := { Fields.none with essential := true } }
    let c := { c with ltc := { c.ltc with masks := ⟨0x38, 0x38, 0x38⟩ } }
    s.phase = .running ∧ (∀ j : Fin 4, (0b1000 : Byte).getLsbD j.val = decide (j = 3))
      ∧ (11 : Entry).val = (8 : Byte).toNat + 3 ∧ s.mayWrite .h 11 = true
      ∧ (s.ltc.masks.get .h).getLsbD 0 = false ∧ (s.ltc.masks.get .h).getLsbD 2 = false
      ∧ (s.ltc.masks.get .h).getLsbD 4 = false ∧ (s.ltc.fills.get .h).watts ≤ 30000
      ∧ (∀ k : Fin 4, ∀ e : Entry, (0b0011 : Byte).getLsbD k.val = true →
          e.val = (12 : Byte).toNat + k.val →
          s.mayWrite .h e = true
            ∧ s.writeConflicts e (s.ltc.masks.get .h)
                (mergeFields (s.ltc.masks.get .h) (s.load e).fields (s.ltc.fills.get .h)) = false)
      ∧ (∀ k : Fin 4, ∀ e : Entry, (0b0010 : Byte).getLsbD k.val = true →
          e.val = (8 : Byte).toNat + k.val →
          c.mayWrite .h e = true
            ∧ c.writeConflicts e (c.ltc.masks.get .h)
                (mergeFields (c.ltc.masks.get .h) (c.load e).fields (c.ltc.fills.get .h)) = true)
      ∧ (3 : Byte) ≠ 0 ∧ (3 : Byte) ≠ 4 ∧ (3 : Byte) ≠ 8 ∧ (3 : Byte) ≠ 12 := by decide +kernel

/-- EntriesAreWritten: wanted set on circuit 5 from port H at 30,000 W; index 16; port S outside its
region; an essential chain entry; and a port whose region holds no entry. -/
theorem witness_entries :
    let after := mergeFields (maskOf 0x21) (run.load 5).fields (fieldsOf 1 30000)
    let none' := { run with
      settings :=
        { run.settings with
          device :=
            { run.settings.device with
              regionLow := ⟨15, 15, 15⟩, regionHigh := ⟨0, 0, 0⟩ } } }
    run.phase = .running ∧ entryOf 5 = some 5 ∧ run.mayWrite .h 5 = true ∧ (5 : Entry) ≠ sawEntry
      ∧ run.writeConflicts 5 (maskOf 0x21) after = false ∧ run.entryState 5 = .off
      ∧ (run.load 5).fields.wanted = false ∧ after.wanted = true
      ∧ after.essential = (run.load 5).fields.essential
      ∧ (after.member && run.rotaExcludes 5) = false ∧ 16 ≤ (16 : Byte).toNat
      ∧ entryOf 15 = some 15 ∧ run.mayWrite .s 15 = false
      ∧ dry.phase = .running ∧ dry.mayWrite .h 4 = true
      ∧ dry.writeConflicts 4 (maskOf 0x04)
          (mergeFields (maskOf 0x04) (dry.load 4).fields (fieldsOf 0x04 0)) = true
      ∧ none'.phase = .running ∧ (∀ e : Entry, none'.mayWrite .h e = false) := by decide +kernel

/-- EntriesAreWritten, the moves of R86 on circuit 5 from port H: wanted cleared in WAITING, member cleared in
ROTA-OFF, member set in ON and wanted set in OFF under a slot that leaves it out, essential set in WAITING, and
a write of watts alone. -/
theorem witness_entry_moves :
    let in' (st : EntryState) (member : Bool) := (rota 28).setLoad 5
      { fields := { Fields.none with wanted := decide (st ≠ .off), member := member, watts := 500 }
        state := st, notSeen := false }
    let s := in' .on false
    let s := { s with rtp := { s.rtp with buffer := s.rtp.buffer.set 28 0b1111 } }
    let out := s.setLoad 5 { Load.rest with fields := { Fields.none with member := true } }
    let merged (s : State) (m flags : Byte) :=
      mergeFields (maskOf m) (s.load 5).fields (fieldsOf flags 500)
    let ok (s : State) (m flags : Byte) :=
      s.phase = .running ∧ s.mayWrite .h 5 = true
        ∧ s.writeConflicts 5 (maskOf m) (merged s m flags) = false
    entryOf 5 = some 5 ∧ ok (in' .waiting false) 0x01 0 ∧ (merged (in' .waiting false) 0x01 0).wanted = false
      ∧ ok (in' .rotaOff true) 0x10 0 ∧ (merged (in' .rotaOff true) 0x10 0).member = false
      ∧ ok s 0x10 0x10 ∧ (merged s 0x10 0x10).member = true ∧ s.rotaExcludes 5 = true
      ∧ s.entryState 5 = .on ∧ ok out 0x01 0x01 ∧ (merged out 0x01 0x01).wanted = true
      ∧ out.rotaExcludes 5 = true ∧ out.entryState 5 = .off
      ∧ ok (in' .waiting false) 0x04 0x04 ∧ (merged (in' .waiting false) 0x04 0x04).essential = true
      ∧ ok (in' .on false) 0x20 0 ∧ merged (in' .on false) 0x20 0 = ((in' .on false).load 5).fields := by
  decide +kernel

/-- MasksAndChainAreSet: an entry of the chain and one outside it, an anchor, an essential entry. -/
theorem witness_chain :
    dry.phase = .running ∧ Port.h ≠ .s ∧ entryOf 4 = some 4
      ∧ (dry.load 4).fields.essential = false ∧ (4 : Entry) ∈ dry.ltc.chain
      ∧ entryOf 5 = some 5 ∧ (dry.load 5).fields.essential = false ∧ (11 : Entry) ≠ 5
      ∧ (5 : Entry) ∉ dry.ltc.chain ∧ dry.ltc.chain.length < 15 ∧ entryOf 11 = some 11
      ∧ dry.ltc.chain = [9, 4] ++ 11 :: [2, 7] ∧ (11 : Entry) ∉ [(9 : Entry), 4]
      ∧ entryOf 15 = some 15 ∧ (dry.load 15).fields.essential = true
      ∧ (15 : Byte).toNat < 16 := by decide +kernel

/-- EntryIsReported: index 15 and index 16. -/
theorem witness_read_entry :
    reserved3.phase = .running ∧ entryOf 15 = some 15 ∧ entryOf 3 = some 3
      ∧ 16 ≤ (16 : Byte).toNat := by decide

/-- ReadsReportOnly: ports 0 to 2, an address of the table, sections 9 and 10. -/
theorem witness_reads :
    run.phase = .running ∧ Port.ofNumber (2 : Byte).toNat = some .h
      ∧ run.settingAt (0 : Byte).toNat (2 : Byte).toNat (0 : Byte).toNat = some (64, 64)
      ∧ (run.section (9 : Byte).toNat).isSome = true ∧ 9 < (10 : Byte).toNat := by
  refine ⟨by decide, by decide, by decide, rfl, ?_⟩
  decide

/-- ReadsReportOnly, READ ROTA: the last slot of page 3 and of the play buffer, and each way a selection is
out of range. -/
theorem witness_read_rota :
    let s := rota 28
    s.phase = .running ∧ (63 : Byte).toNat < 64 ∧ (1 : Byte).toNat ≤ 8
      ∧ (63 : Byte).toNat + (1 : Byte).toNat ≤ 64 ∧ pageOf 3 = some 3
      ∧ [(s.rtp.pages.get 3).get 63][0]? = some ((s.rtp.pages.get 3).get 63)
      ∧ [s.rtp.buffer.get 63].length = (1 : Byte).toNat
      ∧ 4 < (5 : Byte).toNat ∧ 63 < (64 : Byte).toNat ∧ 8 < (9 : Byte).toNat
      ∧ 64 < (63 : Byte).toNat + (2 : Byte).toNat := by decide +kernel

/-- R122, section 10.2: play from slot 28 after 5 s of a slot of 15 minutes, no selection: what is not open. -/
theorem test_read_rota :
    let s := { rota 28 with
      rtp :=
        { (rota 28).rtp with
          seconds := 5, split := some { half := .high, tap := 4, page := 1 } } }
    ((after (.readRota .g none) s).port .g).tx
      = .ready 100000000
          { code := 0x44, result := .done, waiting := 0
            data := [1, 28, 1, 1, 4, 1, 15, 0x03, 0x7F] } := by decide +kernel

/-- LoadTableIsMoved: the saw ON and OFF, the rota playing. -/
theorem witness_moves :
    run.phase = .running ∧ (rota 28).phase = .running ∧ (rota 28).rtp.playing = true
      ∧ sawDelta.phase = .running ∧ sawDelta.entryState sawEntry ≠ .off
      ∧ run.entryState sawEntry = .off := by decide +kernel

/-- RecordsAreShedBy: FAST at the limit of 46,000 mHz with and without an entry to shed, SHORT at the
margin of 800 mHz in each state, and neither. -/
theorem witness_records_shed :
    let fast := { recFast with f := 46000, e := -1 }
    let short := { recShort with e := -800 }
    let in' (x : ShedState) := { run with shc := { run.shc with state := x } }
    dry.phase = .running ∧ fast.f ≤ dry.settings.admission.fastShedF ∧ fast.e < 0
      ∧ dry.ltc.chain.find? (fun x => (dry.entryState x).energised) = some 4
      ∧ (4 : Entry) ≠ sawEntry
      ∧ run.ltc.chain.find? (fun x => (run.entryState x).energised) = none
      ∧ (in' .shedding).phase = .running ∧ (in' .shedding).shc.state = .shedding
      ∧ run.settings.admission.fastShedF < short.f ∧ short.d = 0
      ∧ short.e ≤ -(run.settings.admission.shedMargin : Int) ∧ run.shc.state = .normal
      ∧ (in' .confirming).shc.state = .confirming
      ∧ (in' .confirming).shc.count + 1 < run.settings.admission.confirmLimit
      ∧ 0 < recEasy.d ∧ run.settings.admission.fastShedF < recEasy.f := by decide +kernel

/-- RecordsAreShedBy: the confirm limit reached in CONFIRMING and in SHEDDING, the saw the first energised
entry of the chain, and none; SHORT in RECOVERY HOLD; neither in NORMAL, with ballast on and with an error one
short of the margin. -/
theorem witness_shed_limits :
    let short := { recShort with e := -800 }
    let at' (s : State) (x : ShedState) := { s with shc := { s.shc with state := x, count := 9 } }
    let saw := { sawDelta with ltc := { sawDelta.ltc with chain := [9, 14] } }
    (at' dry .confirming).phase = .running ∧ dry.settings.admission.fastShedF < short.f
      ∧ short.d = 0 ∧ short.e ≤ -(dry.settings.admission.shedMargin : Int)
      ∧ dry.settings.admission.confirmLimit ≤ (at' dry .confirming).shc.count + 1
      ∧ dry.ltc.chain.find? (fun x => (dry.entryState x).energised) = some 4
      ∧ (at' saw .shedding).phase = .running
      ∧ saw.ltc.chain.find? (fun x => (saw.entryState x).energised) = some sawEntry
      ∧ (at' run .confirming).ltc.chain.find? (fun x => (run.entryState x).energised) = none
      ∧ (at' run .recoveryHold).shc.state = .recoveryHold ∧ run.shc.state = .normal
      ∧ 0 < recEasy.d ∧ -(run.settings.admission.shedMargin : Int) < -799 := by decide +kernel

/-- ShedTimersExpire: holds at their full time, and the restart pending. -/
theorem witness_shed_timers :
    let rec' := { put run 4 .shedUnderfrequency 3000 with
      shc := { run.shc with state := .recoveryHold, stack := [4], recovery := some 70000000 } }
    let lost := { run with shc := { run.shc with lineLoss := some 98000000 } }
    let back := { run with shc := { run.shc with restartPending := true } }
    let conf := { run with shc := { run.shc with state := .confirming, regulating := true } }
    let wait' := { run with
      shc :=
        { run.shc with restartPending := true, regulating := true, restart := some 90000000 } }
    rec'.phase = .running ∧ rec'.shc.state = .recoveryHold ∧ rec'.shc.recovery = some 70000000
      ∧ rec'.settings.admission.recoveryHold * 1000000 ≤ rec'.elapsed 70000000
      ∧ rec'.entryState 4 = .shedUnderfrequency ∧ (4 : Entry) ∈ rec'.shc.stack
      ∧ lost.phase = .running ∧ lost.shc.lineLoss = some 98000000
      ∧ 2000000 ≤ lost.elapsed 98000000 ∧ lost.shc.regulating = false
      ∧ back.phase = .running ∧ (chg .regulating).state = .regulating
      ∧ back.shc.regulating = false ∧ back.shc.restartPending = true
      ∧ conf.phase = .running ∧ (chg .holding).state ≠ .regulating ∧ conf.shc.regulating = true
      ∧ conf.shc.state = .confirming ∧ wait'.phase = .running
      ∧ wait'.shc.restart = some 90000000
      ∧ wait'.settings.admission.restartHold * 1000000 ≤ wait'.elapsed 90000000 := by
  decide +kernel

/-- RotaIsCommanded: pages 0 to 3, slots 0 to 63, taps 0 to 31 at their ends; playing at 30, 31, 63 and
idle. -/
theorem witness_rota :
    run.phase = .running ∧ pageOf 3 = some 3 ∧ (63 : Byte).toNat < 64 ∧ slotOf 63 = some 63
      ∧ tapOf 31 = some 31 ∧ (rota 30).phase = .running ∧ (rota 30).rtp.playing = true
      ∧ (rota 30).rtp.pointer.val ≠ 31 ∧ (rota 30).rtp.pointer.val ≠ 63
      ∧ run.rtp.playing = false ∧ (rota 31).rtp.pointer.val = 31 ∧ (rota 63).rtp.pointer.val = 63
      ∧ (rota 30).posted = [] := by decide +kernel

/-- SlotsFollowEachOther: a second passed below the period, the period reached at 30, 31 and 63. -/
theorem witness_slots :
    let full (p : Fin 64) := { rota p with rtp := { (rota p).rtp with seconds := 900 } }
    (rota 30).phase = .running ∧ (rota 30).rtp.playing = true
      ∧ (rota 30).rtp.second = some 99000000 ∧ 1000000 ≤ (rota 30).elapsed 99000000
      ∧ (rota 30).rtp.seconds < (rota 30).settings.slotPeriod * 60
      ∧ (full 30).phase = .running ∧ (full 30).rtp.second = some 99000000
      ∧ (full 30).settings.slotPeriod * 60 ≤ (full 30).rtp.seconds
      ∧ (full 30).rtp.pointer.val ≠ 31 ∧ (full 30).rtp.pointer.val ≠ 63
      ∧ (31 : Fin 64).val = (full 30).rtp.pointer.val + 1
      ∧ (full 31).rtp.pointer.val = 31
      ∧ (32 : Fin 64).val
          = 32 + ((full 31).rtp.split.elim 0 (fun x => x.tap.val))
      ∧ (full 63).rtp.pointer.val = 63
      ∧ (0 : Fin 64).val = 0 + ((full 63).rtp.split.elim 0 (fun x => x.tap.val)) := by
  decide +kernel

/-- SawRunsUp: a start at 99 W (clamped) and each refusal's state; the begin signal, the dwell and the
dead time with AUX_STAR open and closed. -/
theorem witness_saw_runs :
    let stop := { run with sws := { run.sws with estop := true } }
    let ready := { put run 14 (.reserved 0) 14000 with sws := { run.sws with stage := .waiting } }
    run.phase = .running ∧ yesNo 1 = some true ∧ run.sws.latch = false ∧ run.sws.stage = .off
      ∧ run.entryState sawEntry = .off ∧ run.sws.estop = false ∧ run.tsv.latch = false
      ∧ 100 = max 100 (min 30000 (99 : Half).toNat)
      ∧ sawFault.phase = .running ∧ sawFault.sws.latch = true
      ∧ sawDelta.sws.latch = false ∧ sawDelta.sws.stage ≠ .off
      ∧ stop.phase = .running ∧ stop.sws.estop = true ∧ stop.entryState sawEntry = .off
      ∧ tripped.phase = .running ∧ tripped.tsv.latch = true ∧ tripped.sws.estop = false
      ∧ tripped.entryState sawEntry = .off
      ∧ ready.phase = .running ∧ ready.sws.stage = .waiting ∧ ready.sws.estop = false
      ∧ (ready.entryState sawEntry).energised = true
      ∧ sawStar.phase = .running ∧ sawStar.sws.stage = .star ∧ sawStar.sws.dwell = some 94000000
      ∧ sawStar.settings.admission.starDwell * 1000 ≤ sawStar.elapsed 94000000
      ∧ sawChange.phase = .running ∧ sawChange.sws.stage = .changeover
      ∧ sawChange.sws.dead = some 99920000
      ∧ sawChange.settings.admission.deadTime * 1000 ≤ sawChange.elapsed 99920000 := by
  decide +kernel

/-- ContactorsAreWatched: a check of 150 ms, an unchecked and a checked change, the last OPEN, and the
stopping limit of 500 ms. -/
theorem witness_contactors :
    let c := { sawDelta with
      sws := { sawDelta.sws with checks := ⟨none, none, some 99850000⟩ } }
    c.phase = .running ∧ c.sws.checks.get .delta = some 99850000 ∧ 150000 ≤ c.elapsed 99850000
      ∧ sawDelta.phase = .running ∧ sawDelta.sws.aux.get .main ≠ false
      ∧ sawDelta.sws.checks.get .main = none ∧ sawDelta.sws.stage = .delta
      ∧ c.sws.aux.get .delta ≠ false ∧ (c.sws.checks.get .delta).isSome = true
      ∧ c.sws.stage ≠ .changeover ∧ sawStopping.phase = .running
      ∧ sawStopping.sws.stage = .stopping ∧ sawStopping.sws.checks.get .main = none
      ∧ sawStopping.sws.aux.get .main = true
      ∧ sawStopping.sws.aux.set .main false = ⟨false, false, false⟩
      ∧ sawStopping.adu.displaced = [] ∧ sawStopping.sws.stopping = some 99500000
      ∧ 500000 ≤ sawStopping.elapsed 99500000 ∧ sawStopping.sws.aux.main = true := by
  decide +kernel

/-- SawIsStopped: a running saw, one at rest, one stopping, one faulted, and an asserted stop. -/
theorem witness_saw_stops :
    let pressed := { run with sws := { run.sws with estop := true } }
    let shut := { sawFault with sws := { sawFault.sws with aux := ⟨true, false, false⟩ } }
    sawDelta.phase = .running ∧ sawDelta.sws.stage ∈ [SawStage.star, .changeover, .delta]
      ∧ sawDelta.sws.aux.main = true ∧ sawDelta.sws.estop = false
      ∧ run.phase = .running ∧ run.sws.stage ∈ [SawStage.off, .stopping, .fault]
      ∧ pressed.phase = .running ∧ pressed.sws.estop = true
      ∧ run.sws.latch = false ∧ shut.sws.latch = true ∧ shut.sws.aux ≠ ⟨false, false, false⟩
      ∧ sawFault.phase = .running ∧ sawFault.sws.latch = true
      ∧ sawFault.sws.aux = ⟨false, false, false⟩ ∧ sawFault.sws.stage = .fault
      ∧ sawFault.adu.displaced = [] := by decide +kernel

/-- TurbineIsWatched: leaving REGULATING, pulses with the shaft unused and with a limit of 10 µs, 2 s of
gap and of standstill. -/
theorem witness_turbine :
    let fast := { run with
      settings :=
        { run.settings with supervision := { run.settings.supervision with shaftLimit := 10 } }
      tsv := { run.tsv with lastPulse := some 99999991, shaftCount := 4 } }
    let late := { run with
      tsv := { run.tsv with gap := some 98000000, standstill := some 98000000 } }
    run.phase = .running ∧ (chg .stopped).state ≠ .regulating
      ∧ (chg .regulating).state = .regulating
      ∧ (after (.regStateAtTurbine (chg .regulating)) run).tsv.regulating = true
      ∧ run.settings.supervision.shaftLimit = 0 ∧ run.tsv.standstill = none
      ∧ run.tsv.line ≠ .present ∧ fast.phase = .running
      ∧ fast.tsv.lastPulse = some 99999991 ∧ fast.tsv.latch = false ∧ fast.tsv.shaftCount = 4
      ∧ fast.elapsed 99999991 < fast.settings.supervision.shaftLimit
      ∧ late.phase = .running ∧ late.tsv.gap = some 98000000 ∧ 2000000 ≤ late.elapsed 98000000
      ∧ late.tsv.standstill = some 98000000 := by decide +kernel

/-- TurbineIsWatched, a record that does not trip: a third high record with the count at 1, the hundredth
advice with the latch clear, and the hundredth record of a window of 1,055 pulses against 1,020, two strikes
behind it. -/
theorem witness_watch :
    let s := { run with
      settings :=
        { run.settings with supervision := { run.settings.supervision with k100 := 1020 } }
      tsv :=
        { run.tsv with
          lineCount := 1, satCount := 23, adviceCount := 99, windowOpen := true, windowRecords := 99
          windowPulses := 1055, strikes := 2 } }
    s.phase = .running ∧ s.tsv.lineCount + 1 ≠ 3 ∧ s.tsv.satCount + 1 ≠ 25
      ∧ s.tsv.adviceCount + 1 = 100 ∧ s.tsv.latch = false ∧ 0 < s.settings.supervision.k100
      ∧ s.tsv.windowRecords + 1 = 100
      ∧ s.settings.supervision.slipLimit * s.settings.supervision.k100
          < ((s.tsv.windowPulses : Int) - s.settings.supervision.k100).natAbs * 1000
      ∧ (after (.recordAtTurbine { rec1 with a := 7300 }) s).tsv.direction = .closeGate
      ∧ (after (.recordAtTurbine { rec1 with a := 7300 }) s).tsv.excess = 131
      ∧ (after (.recordAtTurbine { rec1 with a := 7300 }) s).posted
          = [.noticeDelivery .gateAdvice 0 1, .faultRaise ⟨.beltSlip, .turbine false⟩] := by
  decide +kernel

/-- TripsAreTaken: latch clear and set, conditions met and not, 30 s, and the area write. -/
theorem witness_trips :
    let early := { tripped with tsv := { tripped.tsv with reference := .since 70000001 } }
    let marked := { run with tsv := { run.tsv with mark := .pending } }
    run.phase = .running ∧ run.tsv.latch = false ∧ tripped.phase = .running
      ∧ tripped.tsv.latch = true ∧ tripped.resetAllowed = true ∧ early.tsv.latch = true
      ∧ early.resetAllowed = false ∧ tripped.tsv.lastA = some 15840 ∧ tripped.tsv.reference = .since 59000000
      ∧ 30000000 ≤ tripped.elapsed 59000000 ∧ marked.phase = .running
      ∧ marked.tsv.mark = .pending ∧ marked.sst.areaWrite = none ∧ marked.sst.save = .idle
      ∧ writing.phase = .running
      ∧ writing.sst.areaWrite = some { start := 99990000, latch := true, record := none }
      ∧ writing.tsv.mark = .inProgress := by decide +kernel

/-- GateOpenIsJudged: amounts 0, 1, 200 and 201, and port H. -/
theorem witness_gate_open :
    run.phase = .running ∧ (0 : Byte) = 0 ∧ 200 < (201 : Byte).toNat ∧ 1 ≤ (1 : Byte).toNat
      ∧ (200 : Byte).toNat ≤ 200 ∧ Port.h ≠ .g := by decide

/-- GateCloseSpendsTokens: a reservation held, none held, and 200 ms at 49 tokens. -/
theorem witness_gate_close :
    let low := { run with tsv := { run.tsv with tokens := 49, accrual := some 99800000 } }
    reserved3.phase = .running ∧ 1 ≤ (1 : Byte).toNat ∧ (200 : Byte).toNat ≤ 200
      ∧ reserved3.adu.table ≠ [] ∧ reserved3.tsv.latch = false
      ∧ run.phase = .running ∧ run.adu.table = [] ∧ 50 = min (200 : Byte).toNat run.tsv.tokens
      ∧ low.phase = .running ∧ low.tsv.accrual = some 99800000 ∧ 200000 ≤ low.elapsed 99800000
      ∧ low.tsv.tokens < 50 := by decide +kernel

/-- FramesAreTimed: HUNT, DE asserted, LEN of 0 and of 49, a gap of 2,001 µs, a response 500 µs old and
one being sent. -/
theorem witness_frame_times :
    let late := { midFrame with timebase := 100001001 }
    run.phase = .running ∧ (run.port .s).de = false ∧ (run.port .s).rx.mode = .hunt
      ∧ (0x3C : Byte) ≠ 0xC3 ∧ sendingS.phase = .running ∧ (sendingS.port .s).de = true
      ∧ midFrame.phase = .running ∧ (midFrame.port .s).de = false
      ∧ (midFrame.port .s).rx.mode = .length ∧ (midFrame.port .s).rx.bytes = [0xC3]
      ∧ midFrame.elapsed (midFrame.port .s).rx.last ≤ 2000 ∧ 48 < (49 : Byte).toNat
      ∧ late.phase = .running ∧ (late.port .s).rx.mode ≠ .hunt
      ∧ 2000 < late.elapsed (late.port .s).rx.last ∧ answered.phase = .running
      ∧ (answered.port .s).tx
          = .ready 99999500 { code := 0x31, result := .done, waiting := 2, data := [] }
      ∧ 500 ≤ answered.elapsed 99999500
      ∧ (sendingS.port .s).tx = .sending 99999500 [0x3C] ∧ (sendingS.port .s).baudNext = none := by
  decide +kernel

/-- PortsAreReset: a break not yet taken, and silence limits of 5 s on ports H and S. -/
theorem witness_port_resets :
    run.phase = .running ∧ (run.port .h).de = false ∧ (run.port .h).broken = false
      ∧ (silent .h).phase = .running ∧ Port.h ≠ .s
      ∧ ((silent .h).port .h).silence = some 95000000 ∧ (silent .h).silenceLimit .h ≠ 0
      ∧ (silent .h).silenceLimit .h * 1000000 ≤ (silent .h).elapsed 95000000
      ∧ (silent .s).phase = .running ∧ ((silent .s).port .s).silence = some 95000000
      ∧ (silent .s).silenceLimit .s ≠ 0
      ∧ (silent .s).silenceLimit .s * 1000000 ≤ (silent .s).elapsed 95000000
      ∧ (silent .s).sws.stage = .delta ∧ (silent .s).sws.aux.main = true := by decide +kernel

/-- NoticesAreKept: a kind routed and one not, hold, a full queue, counts 0, 1, 4 and 5, and the
controls (a mask that a kind leaves, and one it does not). -/
theorem witness_notices :
    let x : Notice := { kind := .trip, subject := 0, value := 0, time := 0 }
    let full := run.setNotices .g { run.notices .g with queue := List.replicate 16 x }
    let held := run.setNotices .g { run.notices .g with hold := true }
    let masked := run.setNotices .g { run.notices .g with mask := 1 }
    run.phase = .running ∧ (run.notices .g).route.getLsbD NoticeKind.entryChanged.number = false
      ∧ (run.notices .g).route.getLsbD NoticeKind.trip.number = true
      ∧ (run.notices .g).enable = true ∧ (run.notices .g).hold = false
      ∧ (run.notices .g).mask.getLsbD NoticeKind.trip.number = false
      ∧ (run.notices .g).queue.length < 16 ∧ full.phase = .running
      ∧ 16 ≤ (full.notices .g).queue.length ∧ (held.notices .g).hold = true
      ∧ 1 ≤ (1 : Byte).toNat ∧ (4 : Byte).toNat ≤ 4
      ∧ (∀ k : Fin 14, (run.notices .g).slots.get k = none) ∧ (0 : Byte) = 0
      ∧ (masked.notices .g).mask.getLsbD NoticeKind.entryChanged.number = true
      ∧ (0 : Half).getLsbD NoticeKind.entryChanged.number = false
      ∧ (∀ k ∈ NoticeKind.all, (run.notices .g).mask.getLsbD k.number = false)
      ∧ 4 < (5 : Byte).toNat ∧ yesNo 0 = some false ∧ yesNo 1 = some true := by decide +kernel

/-- FaultsAreRaisedAndCleared: a kind set, one clear and unmasked, one clear and masked, a snapshot held,
and port H. -/
theorem witness_faults :
    let s := { run with flu := { run.flu with status := 0b1 } }
    let masked := run.setDevice { run.settings.device with masks := 0b10 }
    s.phase ≠ .held ∧ s.flu.status.getLsbD FaultKind.lineLost.number = true
      ∧ s.flu.status.getLsbD FaultKind.beltSlip.number = false
      ∧ s.settings.device.masks.getLsbD FaultKind.beltSlip.number = false
      ∧ masked.phase ≠ .held
      ∧ masked.settings.device.masks.getLsbD FaultKind.referenceFallback.number = true
      ∧ s.flu.snapshot = none ∧ (after (.faultRaise ⟨.beltSlip, .turbine false⟩) run).flu.snapshot.isSome = true
      ∧ run.phase = .running ∧ Port.h ≠ .s := by decide +kernel

/-- SettingsAreWritten: an address outside the table, groups 0, 2, 4 and 5 from ports that may not write
them, and a band upside down. -/
theorem witness_settings :
    run.phase = .running ∧ run.settingAt (0 : Byte).toNat (7 : Byte).toNat (0 : Byte).toNat = none
      ∧ run.settingAt (5 : Byte).toNat (6 : Byte).toNat (0 : Byte).toNat = some (0, 0)
      ∧ run.settingAt (0 : Byte).toNat (0 : Byte).toNat (0 : Byte).toNat = some (50000, 50000)
      ∧ run.settingAt (4 : Byte).toNat (0 : Byte).toNat (0 : Byte).toNat = some (15, 15)
      ∧ run.setupEn = false ∧ { run with setupEn := true }.setupEn = true ∧ Port.h ≠ .g ∧ Port.g ≠ .h
      ∧ run.settings.supervision.adviceHigh < 1000
      ∧ (run.settings.supervision.adviceHigh : Int) < (451 : Wide).toInt
      ∧ run.rtp.playing = false := by decide +kernel

/-- SavesAreMade: idle, with an area write in progress, running, and waiting. -/
theorem witness_saves :
    let waiting := { run with sst := { run.sst with save := .waiting } }
    run.phase = .running ∧ run.sst.save = .idle ∧ run.tsv.mark = .clear ∧ run.sst.areaWrite = none
      ∧ writing.phase = .running ∧ writing.sst.save = .idle
      ∧ writing.sst.areaWrite = some { start := 99990000, latch := true, record := none }
      ∧ waiting.phase = .running ∧ waiting.sst.save ≠ .idle ∧ waiting.sst.save = .waiting
      ∧ waiting.sst.areaWrite = none ∧ saving.phase = .running
      ∧ saving.sst.save = .running 99750000 ImageData.factory ∧ saving.tsv.mark = .clear := by
  refine ⟨by decide, by decide, by decide, by decide, by decide, by decide, by decide, by decide,
    by decide, by decide, by decide, by decide, rfl, by decide⟩

end Sys2Proof.Tests
end

section
/-! PROOFS. The Ballast Regulator's update (chapter 2): which copy it works with, and the demand in watts
(R32). -/

namespace Sys2Proof.Machine

/-- A raise made on a condition leaves the regulator either way. -/
theorem raiseIf_brg (p : Prop) [Decidable p] (s : State) (k : FaultKind) :
    (if p then s.raise k else s).brg = s.brg := by split <;> rfl

/-- Publishing a record leaves the regulator. -/
theorem publish_brg (s : State) (r : RegRecord) : (s.publish r).brg = s.brg := rfl

/-- The two raises and the published record of an update leave the regulator as its stages made it. -/
theorem update_brg (s : State) (f : Nat) : (s.update f).brg = s.brg.updated f s.timebase :=
  (publish_brg _ _).trans ((raiseIf_brg _ _ _).trans (raiseIf_brg _ _ _))

/-- An update works with the active copy and does not change it. -/
theorem updated_active (b : Ballast) (f : Nat) (now : Time) :
    (b.updated f now).active = b.active := by simp only [Ballast.updated]

/-- Stage 2 keeps D within 0 to 1000 (R30). -/
theorem updated_d_le (b : Ballast) (f : Nat) (now : Time) : (b.updated f now).d ≤ 1000 :=
  demandAfter_range _ _

/-- Stage 3 takes Wd from the D of this update and the active copy's Rtot (R32). -/
theorem updated_wd (b : Ballast) (f : Nat) (now : Time) :
    (b.updated f now).wd = wattsOf (b.updated f now).d (rtotOf b.active.banks) := by
  simp only [Ballast.updated]

/-- REGULATION_UPDATE of a good period that finds the regulator in REGULATING goes on to the update. -/
theorem exec_regulationUpdate_regulating (s : State) (v : ValidPeriod) (f sum : Nat)
    (hp : s.phase = .running) (hr : s.brg.state = .regulating) (he : s.brg.active.enable = true)
    (hv : v.present = some (sum, f)) :
    exec (.regulationUpdate v) s =
      .next ({ s with brg := { s.brg with line := .present } }.takeUpdate f) := by
  have settled := settle_same { s with brg := { s.brg with line := .present } }
    (by simp [hr, he, regStateFor])
  have dispatched : exec (.regulationUpdate v) s = execRegulationUpdate v s := rfl
  rw [dispatched, execRegulationUpdate, whenRunning_running s _ hp]
  simp only [hv, Option.isSome_some, if_true, settled]
  rw [if_pos hr]

/-- With the line present and the enable to come still yes, the period's update is computed on the copy
that a waiting transfer has just made active (R23, R28). -/
theorem takeUpdate_regulating (s : State) (f : Nat) (hr : s.brg.state = .regulating)
    (hl : s.brg.line = .present) (he : s.brg.transferEnable = true → s.brg.shadow.enable = true) :
    s.takeUpdate f = (if s.brg.transferEnable then s.transfer 1 else s).update f := by
  unfold State.takeUpdate
  cases ht : s.brg.transferEnable with
  | false => simp [hr]
  | true =>
    have settled : (s.transfer 1).settleRegulation = s.transfer 1 :=
      settle_same _ (by simp [transfer_brg, hr, hl, he ht, regStateFor])
    simp [settled, transfer_brg, hr]

/-- The copy an update works with: the shadow when a transfer waits, else the active one. -/
theorem dueTransfer_active (s : State) (how : Nat) :
    (if s.brg.transferEnable then s.transfer how else s).brg.active =
      if s.brg.transferEnable then s.brg.shadow else s.brg.active := by
  split
  · rw [transfer_brg]
  · rfl

/-- REGULATION_UPDATE in REGULATING is an update of a state whose active copy is the one due. -/
theorem exec_regulationUpdate_updates (s : State) (v : ValidPeriod) (f sum : Nat)
    (hp : s.phase = .running) (hr : s.brg.state = .regulating) (he : s.brg.active.enable = true)
    (hv : v.present = some (sum, f)) (hs : s.brg.transferEnable = true → s.brg.shadow.enable = true) :
    ∃ due : State, due.brg.active = (if s.brg.transferEnable then s.brg.shadow else s.brg.active)
      ∧ exec (.regulationUpdate v) s = .next (due.update f) := by
  refine ⟨_, dueTransfer_active { s with brg := { s.brg with line := .present } } 1, ?_⟩
  exact (exec_regulationUpdate_regulating s v f sum hp hr he hv).trans
    (congrArg _ (takeUpdate_regulating _ f hr rfl hs))

/-- Settles O33: the period's update runs on the copy that is due, and its third stage sets Wd from a D
of at most 1000, so that Wd is within Rtot. -/
theorem wattsFollowDemand : Obligations.WattsFollowDemand := by
  intro s v f sum hp hr he hv hs
  obtain ⟨due, hactive, hexec⟩ := exec_regulationUpdate_updates s v f sum hp hr he hv hs
  have watts := updated_wd due.brg f due.timebase
  have within : (due.brg.updated f due.timebase).wd ≤ rtotOf due.brg.active.banks :=
    watts ▸ wattsOf_le _ _ (updated_d_le due.brg f due.timebase)
  refine ⟨due.update f, hexec, ?_⟩
  rw [update_brg, updated_active]
  exact ⟨hactive, watts, within, fun hzero => Nat.le_zero.mp (hzero ▸ within)⟩

end Sys2Proof.Machine
end

section
/-! PROOFS. The Admission Unit's floor as given (chapter 4): what a new floor does to the headroom (R54), and
the change of regulation state that carries one (R57). -/

namespace Sys2Proof.Machine

/-- The effective reserve depends on the crystal flag and the settings, not on the floor as given (R53). -/
@[simp] theorem reserveEff_floor (s : State) (w : Nat) :
    ({ s with adu := { s.adu with floor := w } } : State).reserveEff = s.reserveEff := rfl

/-- A new floor as given enters the headroom in place of the old one; reserve and watts held stay (R54). -/
theorem headroom_floor (s : State) (w : Nat) :
    ({ s with adu := { s.adu with floor := w } } : State).headroom =
      (w : Int) - s.reserveEff - heldWatts s.adu.table := by
  simp only [State.headroom, reserveEff_floor]

/-- REG_STATE_AT_ADMISSION in a running state replaces the floor as given and nothing else (R57). -/
theorem exec_regStateAtAdmission_running (s : State) (c : RegChange) (hp : s.phase = .running) :
    exec (.regStateAtAdmission c) s = .next { s with adu := { s.adu with floor := c.floor } } := by
  have dispatched : exec (.regStateAtAdmission c) s = execRegStateAtAdmission c s := rfl
  rw [dispatched, execRegStateAtAdmission, whenRunning_running s _ hp]

/-- Settles O37: the change replaces the floor as given, and the headroom of any state it leads to is that
of the new floor. -/
theorem regulationStateSetsFloor : Obligations.RegulationStateSetsFloor := by
  intro s c hp
  have hexec := exec_regStateAtAdmission_running s c hp
  refine ⟨hexec, fun t ht => ?_⟩
  obtain rfl : { s with adu := { s.adu with floor := c.floor } } = t :=
    Host.Outcome.next.inj (hexec.symm.trans ht)
  exact headroom_floor s c.floor

end Sys2Proof.Machine
end

section
/-! PROOFS. Frames: which parts of the state the laws and rules speak of each operation of the blocks, and
each command, can touch. A part that a frame does not name stands. -/

namespace Sys2Proof.Machine

/-! ### Parts of the state -/

/-- The wanted field of each entry. -/
def State.wanteds (s : State) : Entry → Bool := fun e => (s.load e).fields.wanted

/-- The essential field of each entry. -/
def State.essentials (s : State) : Entry → Bool := fun e => (s.load e).fields.essential

/-- The declared watts of each entry. -/
def State.declared (s : State) : Entry → Nat := fun e => (s.load e).fields.watts

/-- The frame receiver of each port. -/
def State.receivers (s : State) : Port → Receiver := fun p => (s.port p).rx

/-- The response side of each port. -/
def State.senders (s : State) : Port → Sender := fun p => (s.port p).tx

/-- The parts of the state that the laws and the rules of the whole machine speak of. -/
inductive Part where
  | phase | settings | regulator | firing | entries | essentials | watts | relays | chain | fills
  | places | stack | shed | rota | saw | permit | mark | tokens | receivers | senders | notices
  | faults | saves | image | tripArea | clock | reserved | latch | delta
deriving DecidableEq

/-- A part stands from one state to another. The last three say less than an equation: no entry has become
RESERVED, a set trip latch is set, and K_DELTA has not closed. -/
def Part.Same (s t : State) : Part → Prop
  | .phase => t.phase = s.phase
  | .settings => t.settings = s.settings
  | .regulator => t.brg = s.brg
  | .firing => t.bfu = s.bfu
  | .entries => t.entryState = s.entryState ∧ t.wanteds = s.wanteds
  | .essentials => t.essentials = s.essentials
  | .watts => t.declared = s.declared
  | .relays => t.ltc.relays = s.ltc.relays
  | .chain => t.ltc.chain = s.ltc.chain
  | .fills => t.ltc.fills = s.ltc.fills
  | .places =>
    t.adu.table = s.adu.table ∧ t.adu.queue = s.adu.queue ∧ t.adu.displaced = s.adu.displaced
  | .stack => t.shc.stack = s.shc.stack
  | .shed => { t.shc with stack := [] } = { s.shc with stack := [] }
  | .rota => t.rtp = s.rtp
  | .saw => t.sws = s.sws
  | .permit => t.tsv.latch = s.tsv.latch ∧ t.tsv.runPermit = s.tsv.runPermit
  | .mark => t.tsv.mark = s.tsv.mark
  | .tokens => t.tsv.tokens = s.tsv.tokens ∧ t.tsv.accrual = s.tsv.accrual
  | .receivers => t.receivers = s.receivers
  | .senders => t.senders = s.senders
  | .notices => t.ntu = s.ntu
  | .faults => t.flu = s.flu
  | .saves => t.sst.save = s.sst.save ∧ t.sst.areaWrite = s.sst.areaWrite
  | .image => t.sst.image = s.sst.image
  | .tripArea => t.sst.tripArea = s.sst.tripArea
  | .clock => t.timebase = s.timebase
  | .reserved => ∀ e k, t.entryState e = .reserved k → s.entryState e = .reserved k
  | .latch => s.tsv.latch = true → t.tsv.latch = true
  | .delta => t.sws.commands.delta = true → s.sws.commands.delta = true

/-- Every part of the first list stands in the second. -/
def Part.within (a b : List Part) : Bool := a.all fun x => b.contains x

theorem Part.mem_of_within {a b : List Part} (h : Part.within a b = true) : ∀ x ∈ a, x ∈ b :=
  fun x hx => by simpa using List.all_eq_true.mp h x hx

theorem Part.same_refl (s : State) (x : Part) : x.Same s s := by
  cases x with
  | reserved => exact fun _ _ h => h
  | latch | delta => exact id
  | entries | permit | tokens | saves => exact ⟨rfl, rfl⟩
  | places => exact ⟨rfl, rfl, rfl⟩
  | _ => rfl

theorem Part.same_trans {s t u : State} (x : Part) (h : x.Same s t) (g : x.Same t u) : x.Same s u := by
  cases x with
  | reserved => exact fun e k hu => h e k (g e k hu)
  | latch => exact g ∘ h
  | delta => exact h ∘ g
  | entries | permit | tokens | saves => exact ⟨g.1.trans h.1, g.2.trans h.2⟩
  | places => exact ⟨g.1.trans h.1, g.2.1.trans h.2.1, g.2.2.trans h.2.2⟩
  | _ => exact Eq.trans g h

/-! ### Changes that leave a part by computation -/

/-- What a part is, as a value. -/
abbrev Part.View : Part → Type
  | .phase => Phase
  | .settings => Settings
  | .regulator => Ballast
  | .firing => Firing
  | .entries => (Entry → EntryState) × (Entry → Bool)
  | .essentials => Entry → Bool
  | .watts => Entry → Nat
  | .relays => Vector Bool 16
  | .chain | .stack => List Entry
  | .fills => PerPort Fields
  | .places => List Reservation × List Entry × List Entry
  | .shed => Shed
  | .rota => Rota
  | .saw => Saw
  | .permit => Bool × Bool
  | .mark => WriteMark
  | .tokens => Nat × Option Time
  | .receivers => Port → Receiver
  | .senders => Port → Sender
  | .notices => PerPort NoticePort
  | .faults => FaultUnit
  | .saves => SaveState × Option AreaWrite
  | .image => Image
  | .tripArea => TripArea
  | .clock => Time
  | .reserved => Entry → EntryState
  | .latch | .delta => Bool

/-- The value of a part in a state. -/
def Part.view (s : State) : (x : Part) → x.View
  | .phase => s.phase
  | .settings => s.settings
  | .regulator => s.brg
  | .firing => s.bfu
  | .entries => (s.entryState, s.wanteds)
  | .essentials => s.essentials
  | .watts => s.declared
  | .relays => s.ltc.relays
  | .chain => s.ltc.chain
  | .fills => s.ltc.fills
  | .places => (s.adu.table, s.adu.queue, s.adu.displaced)
  | .stack => s.shc.stack
  | .shed => { s.shc with stack := [] }
  | .rota => s.rtp
  | .saw => s.sws
  | .permit => (s.tsv.latch, s.tsv.runPermit)
  | .mark => s.tsv.mark
  | .tokens => (s.tsv.tokens, s.tsv.accrual)
  | .receivers => s.receivers
  | .senders => s.senders
  | .notices => s.ntu
  | .faults => s.flu
  | .saves => (s.sst.save, s.sst.areaWrite)
  | .image => s.sst.image
  | .tripArea => s.sst.tripArea
  | .clock => s.timebase
  | .reserved => s.entryState
  | .latch => s.tsv.latch
  | .delta => s.sws.commands.delta

theorem Part.same_of_view {s t : State} {x : Part} (h : x.view t = x.view s) : x.Same s t := by
  cases x with
  | entries | permit | tokens | saves => exact Prod.mk.inj h
  | places => exact ⟨(Prod.mk.inj h).1, Prod.mk.inj (Prod.mk.inj h).2⟩
  | reserved => exact fun e k hk => (congrFun h e).symm.trans hk
  | latch => exact fun hs => h.trans hs
  | delta => exact fun ht => h.symm.trans ht
  | _ => exact h

/-- The values of several parts, together. -/
def Part.Views : List Part → Type
  | [] => Unit
  | x :: xs => x.View × Part.Views xs

def Part.views (s : State) : (xs : List Part) → Part.Views xs
  | [] => ()
  | x :: xs => (x.view s, Part.views s xs)

theorem Part.same_of_views {s t : State} {xs : List Part} (h : Part.views t xs = Part.views s xs) :
    ∀ x ∈ xs, x.Same s t := by
  induction xs with
  | nil => exact fun x hx => absurd hx List.not_mem_nil
  | cons y ys ih =>
    intro x hx
    rcases List.mem_cons.mp hx with rfl | hx
    · exact Part.same_of_view (Prod.mk.inj h).1
    · exact ih (Prod.mk.inj h).2 x hx

def Part.all : List Part :=
  [.phase, .settings, .regulator, .firing, .entries, .essentials, .watts, .relays, .chain, .fills, .places,
   .stack, .shed, .rota, .saw, .permit, .mark, .tokens, .receivers, .senders, .notices, .faults, .saves,
   .image, .tripArea, .clock, .reserved, .latch, .delta]

/-- The parts that are not in the list. -/
def Part.others (a : List Part) : List Part := Part.all.filter fun x => !a.contains x

theorem Part.mem_others {a : List Part} {x : Part} (h : x ∉ a) : x ∈ Part.others a :=
  List.mem_filter.mpr ⟨by cases x <;> simp [Part.all], by simpa using h⟩

/-! ### Frames -/

/-- From one state to another every part stands but those named. -/
def Frame (touched : List Part) (s t : State) : Prop := ∀ x, x ∉ touched → x.Same s t

/-- What a move of an entry touches. -/
abbrev moving : List Part := [.entries, .relays, .places, .stack]

namespace Frame

variable {a b c : List Part} {s t u : State}

theorem refl : Frame a s s := fun x _ => x.same_refl s

theorem trans (h : Frame a s t) (g : Frame a t u) : Frame a s u :=
  fun x hx => x.same_trans (h x hx) (g x hx)

theorem mono_of_subset (h : Frame a s t) (ha : ∀ x ∈ a, x ∈ b) : Frame b s t :=
  fun x hx => h x fun m => hx (ha x m)

theorem mono (h : Frame a s t) (ha : Part.within a b = true) : Frame b s t :=
  h.mono_of_subset (Part.mem_of_within ha)

/-- One change after another touches what either touches. -/
theorem andThen (h : Frame a s t) (g : Frame b t u) (ha : Part.within a c = true)
    (hb : Part.within b c = true) : Frame c s u := (h.mono ha).trans (g.mono hb)

theorem ite {p : Prop} [Decidable p] (h : p → Frame a s t) (g : ¬p → Frame a s u) :
    Frame a s (if p then t else u) := by split <;> [exact h ‹_›; exact g ‹_›]

theorem foldl {α : Type} {f : State → α → State} (hf : ∀ s x, Frame a s (f s x)) (l : List α)
    (s : State) : Frame a s (l.foldl f s) := by
  induction l generalizing s with
  | nil => exact refl
  | cons x xs ih => exact (hf s x).trans (ih _)

theorem forEntries {test : State → Entry → Bool} {act : State → Entry → State}
    (h : ∀ s e, Frame a s (act s e)) (s : State) : Frame a s (s.forEntries test act) :=
  foldl (fun s e => ite (fun _ => h s e) (fun _ => refl)) _ s

theorem whenRunning {act : State → State} (h : ∀ s, Frame a s (act s)) (s : State) :
    Frame a s (s.whenRunning act) := ite (fun _ => h s) (fun _ => refl)

theorem whenReleased {act : State → State} (h : ∀ s, Frame a s (act s)) (s : State) :
    Frame a s (s.whenReleased act) := ite (fun _ => refl) (fun _ => h s)

/-- The frame of a change that leaves the value of every part not named. -/
theorem intro (h : Part.views t (Part.others a) = Part.views s (Part.others a)) : Frame a s t :=
  fun x hx => Part.same_of_views h x (Part.mem_others hx)

/-- A part that stands for a reason of its own leaves the frame. -/
theorem without {x : Part} (h : Frame (x :: a) s t) (hx : x.Same s t) : Frame a s t := fun y hy => by
  by_cases e : y = x
  · exact e ▸ hx
  · exact h y (by simp [e, hy])

end Frame

/-! ### Announcements, ports and answers -/

section
variable (s : State)

theorem frame_post (i : Instr) : Frame [] s (s.post i) := Frame.intro rfl

theorem frame_postAll (is : List Instr) : Frame [] s (s.postAll is) := Frame.intro rfl

theorem frame_notice (k : NoticeKind) (x v : Nat) : Frame [] s (s.notice k x v) := frame_post s _

theorem frame_raise (k : FaultKind) : Frame [] s (s.raise k) := frame_post s _

theorem frame_judgeAlarm : Frame [.faults] s s.judgeAlarm := Frame.intro rfl

theorem frame_draw : Frame [] s s.draw := Frame.intro rfl

theorem receivers_setPort (p : Port) (l : PortLink) (h : l.rx = (s.port p).rx) :
    (s.setPort p l).receivers = s.receivers := by
  funext q
  by_cases e : q = p
  · subst e; simp only [State.receivers, port_setPort_same, h]
  · simp only [State.receivers, port_setPort_other s l e]

theorem senders_setPort (p : Port) (l : PortLink) (h : l.tx = (s.port p).tx) :
    (s.setPort p l).senders = s.senders := by
  funext q
  by_cases e : q = p
  · subst e; simp only [State.senders, port_setPort_same, h]
  · simp only [State.senders, port_setPort_other s l e]

/-- A port replaced, its receiver kept. -/
theorem frame_setPort_rx (p : Port) (l : PortLink) (h : l.rx = (s.port p).rx) :
    Frame [.senders] s (s.setPort p l) :=
  Frame.without (x := .receivers) (Frame.intro rfl) (receivers_setPort s p l h)

/-- A port replaced, its response side kept. -/
theorem frame_setPort_tx (p : Port) (l : PortLink) (h : l.tx = (s.port p).tx) :
    Frame [.receivers] s (s.setPort p l) :=
  Frame.without (x := .senders) (Frame.intro rfl) (senders_setPort s p l h)

/-- A port replaced, its receiver and its response side kept. -/
theorem frame_setPort (p : Port) (l : PortLink) (hr : l.rx = (s.port p).rx)
    (ht : l.tx = (s.port p).tx) : Frame [] s (s.setPort p l) :=
  (frame_setPort_rx s p l hr).without (senders_setPort s p l ht)

theorem frame_linkFault (p : Port) (k : LinkKind) (f : List Byte) : Frame [] s (s.linkFault p k f) :=
  frame_setPort s p _ rfl rfl

theorem frame_answer (p : Port) (c : Byte) (r : Result) (d : List Byte) :
    Frame [.senders] s (s.answer p c r d) := frame_setPort_rx s p _ rfl

theorem frame_setNotices (p : Port) (n : NoticePort) : Frame [.notices] s (s.setNotices p n) :=
  (Frame.intro rfl)

/-- A request touches what its owner's taking touches, and the response side of its port. -/
theorem frame_request {a : List Part} {n : RequestName} {i : Instr} {p : Port}
    {body : State → Taking} (h : ∀ s, Frame a s (body s).1) :
    Frame (.senders :: a) s (s.request n i p body) := by
  refine Frame.whenRunning (fun s => Frame.ite (fun _ => ?_) (fun _ => ?_)) s
  · have taken : Frame (.senders :: a) s (body s).1 := (h s).mono_of_subset (fun x hx => by simp [hx])
    have judged : Frame (.senders :: a) (body s).1
        (match (body s).2.1 with
          | .malformed => (body s).1.linkFault p .malformed i.frame
          | .denied => (body s).1.linkFault p .denied i.frame
          | _ => (body s).1) := by
      split
      · exact (frame_linkFault _ _ _ _).mono_of_subset (by simp)
      · exact (frame_linkFault _ _ _ _).mono_of_subset (by simp)
      · exact Frame.refl
    exact (taken.trans judged).trans ((frame_answer _ _ _ _ _).mono_of_subset (by simp))
  · exact ((frame_linkFault _ _ _ _).mono_of_subset (by simp)).trans ((frame_answer _ _ _ _ _).mono_of_subset (by simp))

/-! ### Load entries -/

/-- A record of an entry replaced by one of the same state and fields. -/
theorem frame_setLoad (e : Entry) (l : Load) (hs : l.state = s.entryState e)
    (hf : l.fields = (s.load e).fields) : Frame [] s (s.setLoad e l) := by
  have hl : ∀ x, ((s.setLoad e l).load x).state = (s.load x).state
      ∧ ((s.setLoad e l).load x).fields = (s.load x).fields := fun x => by
    by_cases h : x = e
    · subst h; rw [load_setLoad_same]; exact ⟨hs, hf⟩
    · rw [load_setLoad_other s l h]; exact ⟨rfl, rfl⟩
  have hframe : Frame [.entries, .essentials, .watts, .reserved] s (s.setLoad e l) := Frame.intro rfl
  intro x hx
  cases x with
  | entries => exact ⟨funext fun x => (hl x).1, funext fun x => congrArg _ (hl x).2⟩
  | essentials => exact funext fun x => congrArg _ (hl x).2
  | watts => exact funext fun x => congrArg _ (hl x).2
  | reserved => exact fun x k h => (hl x).1.symm.trans h
  | _ => exact hframe _ (by simp)

/-- The fields of a record that a move leaves: all but wanted. -/
theorem fields_moveEntry (e x : Entry) (d : EntryState) (c : MoveCause) :
    ((s.moveEntry e d c).load x).fields =
      { (s.load x).fields with wanted := ((s.moveEntry e d c).load x).fields.wanted } := by
  by_cases h : x = e
  · subst h; rw [load_moveEntry_same]
  · rw [load_moveEntry_other s d c h]

/-- A move to any state touches no more than what a move does and the entries in RESERVED. -/
theorem frame_moveEntry_any (e : Entry) (d : EntryState) (c : MoveCause) :
    Frame (.reserved :: moving) s (s.moveEntry e d c) := by
  have hframe : Frame (.essentials :: .watts :: .reserved :: moving) s (s.moveEntry e d c) :=
    (Frame.intro rfl)
  refine Frame.without (Frame.without hframe ?_) ?_
  · exact funext fun x => (congrArg Fields.essential (fields_moveEntry s e x d c) :)
  · exact funext fun x => (congrArg Fields.watts (fields_moveEntry s e x d c) :)

/-- A move to a state other than RESERVED makes no entry RESERVED. -/
theorem frame_moveEntry (e : Entry) (d : EntryState) (c : MoveCause) (hd : d.isReserved = false) :
    Frame moving s (s.moveEntry e d c) :=
  (frame_moveEntry_any s e d c).without fun x k h => by
    by_cases hx : x = e
    · subst hx; rw [entryState_moveEntry_same] at h; subst h; cases hd
    · rwa [entryState_moveEntry_other s d c hx] at h

theorem frame_wantEntry (e : Entry) (c : MoveCause) : Frame moving s (s.wantEntry e c) :=
  Frame.ite (fun _ => frame_moveEntry s e _ c rfl) (fun _ => frame_moveEntry s e _ c rfl)

end
end Sys2Proof.Machine
end

section
/-! PROOFS. The frame of each shared operation of the blocks, and of each command. -/

namespace Sys2Proof.Machine

section
variable (s : State)

/-! ### Saw Sequencer and Admission Unit -/

theorem frame_returnDisplaced : Frame moving s s.returnDisplaced := by
  have walked : Frame moving s (s.adu.displaced.foldl
      (fun s e => if s.entryState e = .displaced then s.moveEntry e .waiting .sawReturn else s) s) :=
    Frame.foldl (fun s e => Frame.ite (fun _ => frame_moveEntry s e _ _ rfl) (fun _ => Frame.refl)) _ s
  exact walked.trans (Frame.intro rfl)

theorem frame_changeStage_delta (w : Saw) (c : SawCause) :
    Frame [.saw, .delta] s (s.changeStage w c) :=
  Frame.andThen (t := { s with sws := w }) (a := [.saw, .delta]) (Frame.intro rfl) (frame_notice _ _ _ _) rfl rfl

/-- A change of stage that does not close K_DELTA. -/
theorem frame_changeStage (w : Saw) (c : SawCause)
    (h : w.commands.delta = true → s.sws.commands.delta = true) : Frame [.saw] s (s.changeStage w c) :=
  fun x hx => by
    by_cases e : x = .delta
    · exact e ▸ h
    · exact frame_changeStage_delta s w c x (by simpa [e] using hx)

theorem frame_reachOff (w : Saw) (c : SawCause)
    (h : w.commands.delta = true → s.sws.commands.delta = true) :
    Frame (.saw :: moving) s (s.reachOff w c) :=
  ((frame_changeStage s { w with stage := .off } c h).andThen (frame_returnDisplaced _) rfl rfl).andThen
    (frame_post _ _) rfl rfl (c := .saw :: moving) (a := .saw :: moving)

theorem frame_enterSawFault (k : Contactor) (kind : SawFaultKind) (c : SawCause) :
    Frame [.saw] s (s.enterSawFault k kind c) := by
  rw [enterSawFault_eq]
  exact Frame.without (x := .delta) (Frame.intro rfl) (fun h => by cases h)

/-- The Sequencer as a stop of a running saw leaves it in SAW STOPPING (R131). -/
def Saw.halted (w : Saw) (now : Time) (c : SawCause) : Saw :=
  { w with
    stage := .stopping, commands := allOpen, checks := noChecks, dwell := none, dead := none,
    stopping := some now, lastStop := some c, opened := noneOpened }

/-- A stop of a running saw: SAW STOPPING, and SAW OFF at once with every auxiliary open (R131, R132). -/
theorem stop_runs (c : SawCause) (h : s.sws.stage ∈ [SawStage.star, .changeover, .delta]) :
    s.stop c =
      if s.sws.auxOpen then
        (s.changeStage (s.sws.halted s.timebase c) c).reachOff
          { s.sws.halted s.timebase c with stopping := none } .contactorsOpen
      else s.changeStage (s.sws.halted s.timebase c) c := by
  simp only [List.mem_cons, List.not_mem_nil, or_false] at h
  unfold State.stop
  rcases h with h | h | h <;> rw [h] <;> rfl

theorem frame_stop (c : SawCause) : Frame (.saw :: moving) s (s.stop c) := by
  have running (h : s.sws.stage ∈ [SawStage.star, .changeover, .delta]) :
      Frame (.saw :: moving) s (s.stop c) := by
    have halted := frame_changeStage s (s.sws.halted s.timebase c) c (fun h => by cases h)
    rw [stop_runs s c h]
    exact Frame.ite (fun _ => halted.andThen (frame_reachOff _ _ _ (fun h => by cases h)) rfl rfl)
      (fun _ => halted.mono rfl)
  cases h : s.sws.stage with
  | waiting => rw [stop_waiting s c h]; exact frame_reachOff s _ c id
  | off | stopping | fault => rw [stop_rest s c (by simp [h])]; exact Frame.refl
  | star | changeover | delta => exact running (by simp [h])

theorem frame_completeChangeover : Frame [.saw, .delta] s s.completeChangeover :=
  Frame.ite (fun _ => frame_changeStage_delta _ _ _) (fun _ => Frame.refl)

theorem frame_endDwell : Frame [.saw] s s.endDwell :=
  Frame.ite (fun _ => frame_changeStage _ _ _ (fun h => by cases h)) (fun _ => Frame.refl)

theorem frame_endDeadTime : Frame [.saw, .delta] s s.endDeadTime :=
  Frame.ite (fun _ => by
    refine Frame.andThen (a := [.saw]) ?_ (frame_completeChangeover _) rfl rfl
    exact Frame.intro rfl) (fun _ => Frame.refl)

theorem frame_closedAtRest (k : Contactor) : Frame [.saw] s (s.closedAtRest k) := by
  refine Frame.andThen (a := [.saw]) ?_ (frame_raise _ _) rfl rfl
  exact Frame.intro rfl

theorem frame_uncommandedChange (k : Contactor) (closed : Bool) :
    Frame (.saw :: moving) s (s.uncommandedChange k closed) := by
  have faulted := (frame_enterSawFault s k .uncommanded .feedback).mono rfl (b := .saw :: moving)
  unfold State.uncommandedChange
  cases s.sws.stage with
  | waiting | star | changeover | delta => exact faulted
  | stopping =>
    refine Frame.ite (fun _ => Frame.ite (fun _ => faulted) (fun _ => Frame.refl)) (fun _ => ?_)
    exact Frame.ite (fun _ => frame_reachOff _ _ _ id) (fun _ => Frame.intro rfl)
  | off => exact Frame.ite (fun _ => (frame_closedAtRest s k).mono rfl) (fun _ => Frame.refl)
  | fault => exact Frame.ite (fun _ => (frame_raise s _).mono rfl) (fun _ => Frame.refl)

theorem frame_refuseSaw : Frame [] s s.refuseSaw := Frame.intro rfl

theorem frame_expireSawWait : Frame (.saw :: moving) s s.expireSawWait := by
  refine Frame.ite (fun _ => Frame.ite (fun _ => ?_) (fun _ => Frame.intro rfl)) (fun _ => Frame.refl)
  have stopped : Frame (.saw :: moving) s
      (if s.sws.stage = .waiting then s.stop .waitExpired else s) :=
    Frame.ite (fun _ => frame_stop s _) (fun _ => Frame.refl)
  exact (stopped.andThen (frame_refuseSaw _) rfl rfl (c := .saw :: moving)).andThen (frame_notice _ _ _ _) rfl rfl

theorem frame_endReservation (r : Reservation) (c : MoveCause) :
    Frame moving s (s.endReservation r c) := by
  refine Frame.andThen (a := [.places]) (b := moving)
    (t := { s with adu := { s.adu with table := s.adu.table.filter (fun x => x.slot ≠ r.slot) } })
    (Frame.intro rfl) ?_ rfl rfl
  exact Frame.ite (fun _ => frame_moveEntry _ _ _ _ rfl) (fun _ => Frame.refl)

theorem frame_arrive (r : Reservation) : Frame moving s (s.arrive r) :=
  (frame_endReservation s r _).andThen (frame_notice _ _ _ _) rfl rfl

theorem frame_arrivals (wd : Nat) : Frame moving s (s.arrivals wd) := Frame.foldl frame_arrive _ s

/-- The load-not-seen mark set on an entry. -/
theorem frame_markNotSeen (e : Entry) (b : Bool) :
    Frame [] s (s.setLoad e { s.load e with notSeen := b }) :=
  frame_setLoad s e { s.load e with notSeen := b } rfl rfl

theorem frame_expireRecord (r : Reservation) : Frame moving s (s.expireRecord r) := by
  have ended := frame_endReservation s r .notSeen
  have marked := ended.andThen (frame_markNotSeen (s.endReservation r .notSeen) r.entry true) rfl rfl (c := moving)
  exact (marked.andThen (frame_raise _ .loadNotSeen) rfl rfl (c := moving)).andThen
    (frame_notice _ .reservationEnded r.entry.val 1) rfl rfl

theorem frame_expireSlot (k : Fin 4) : Frame moving s (s.expireSlot k) := by
  unfold State.expireSlot
  split <;> [exact frame_expireRecord s _; exact Frame.refl]

/-- A grant as it leaves the entry and the Admission Unit (R64), before the Sequencer is told. -/
def State.granted (s : State) (e : Entry) (slot : Fin 4) (r : RegRecord) : State :=
  let t := (s.setLoad e { s.load e with notSeen := false }).moveEntry e (.reserved slot) .grant
  { t with
    adu :=
      { t.adu with table := insertRecord (s.recordFor e slot r) t.adu.table, lastGrant := some r.time } }

theorem grant_eq (e : Entry) (k : Fin 4) (r : RegRecord) :
    s.grant e k r = if e = sawEntry then (s.granted e k r).post .beginSignal else s.granted e k r := rfl

theorem frame_granted (e : Entry) (k : Fin 4) (r : RegRecord) :
    Frame (.reserved :: moving) s (s.granted e k r) := by
  have moved := (frame_markNotSeen s e false).andThen (b := .reserved :: moving)
    (c := .reserved :: moving) (frame_moveEntry_any _ e (.reserved k) .grant) rfl rfl
  exact moved.trans (Frame.intro rfl)

theorem frame_grant (e : Entry) (k : Fin 4) (r : RegRecord) :
    Frame (.reserved :: moving) s (s.grant e k r) := by
  rw [grant_eq]
  exact Frame.ite (fun _ => (frame_granted s e k r).andThen (frame_post _ _) rfl rfl)
    (fun _ => frame_granted s e k r)

theorem frame_displaceOne (short : Int) (acc : State × Nat) (e : Entry) :
    Frame moving acc.1 (displaceOne short acc e).1 := by
  unfold displaceOne
  simp only
  split
  · exact (frame_moveEntry acc.1 e .displaced .displaced rfl).trans (Frame.intro rfl)
  · exact Frame.refl

theorem frame_displace (short : Int) : Frame moving s (s.displace short) := by
  have walked : ∀ (l : List Entry) (acc : State × Nat),
      Frame moving acc.1 (l.foldl (displaceOne short) acc).1 := by
    intro l
    induction l with
    | nil => exact fun _ => Frame.refl
    | cons e es ih => exact fun acc => (frame_displaceOne short acc e).trans (ih _)
  exact (walked s.ltc.chain (s, 0)).trans (Frame.intro rfl)

theorem frame_examine (r : RegRecord) : Frame (.reserved :: moving) s (s.examine r) := by
  unfold State.examine
  split
  · refine Frame.ite (fun _ => Frame.ite (fun _ => frame_grant _ _ _ _) (fun _ => ?_))
      (fun _ => Frame.refl)
    exact Frame.ite (fun _ => (frame_displace s _).mono rfl) (fun _ => Frame.refl)
  · exact Frame.refl

/-! ### Fault Unit, Ballast Regulator, Line and Reference Monitor -/

theorem frame_takeRaise (x : FaultRaise) : Frame [.faults] s (s.takeRaise x) := by
  rw [takeRaise_frame]; exact Frame.intro rfl

theorem frame_clearStatuses (k : FaultSet) : Frame [.faults] s (s.clearStatuses k) := Frame.intro rfl

theorem frame_transfer (how : Nat) : Frame [.regulator] s (s.transfer how) := by
  rw [transfer_frame]; exact Frame.intro rfl

theorem frame_settleRegulation : Frame [.regulator] s s.settleRegulation := by
  rw [settle_frame]; exact Frame.intro rfl

theorem frame_giveDemand : Frame [] s s.giveDemand := frame_post _ _

theorem frame_giveChange (d wd : Nat) : Frame [] s (s.giveChange d wd) :=
  Frame.ite (fun _ => Frame.refl) (fun _ => frame_giveDemand s)

theorem frame_setRegulator (b : Ballast) : Frame [.regulator] s { s with brg := b } := Frame.intro rfl

theorem frame_startDemand : Frame [.regulator] s s.startDemand :=
  (frame_setRegulator s _).andThen (frame_giveChange _ s.brg.d s.brg.wd) rfl rfl

theorem frame_raiseIf (p : Prop) [Decidable p] (k : FaultKind) :
    Frame [] s (if p then s.raise k else s) := Frame.ite (fun _ => frame_raise s k) (fun _ => Frame.refl)

theorem frame_update (f : Nat) : Frame [.regulator] s (s.update f) := by
  have saturated := (frame_setRegulator s (s.brg.updated f s.timebase)).andThen (c := [.regulator])
    (frame_raiseIf _ (s.raisesSaturated (s.brg.updated f s.timebase) = true) .ballastSaturated) rfl rfl
  have none := saturated.andThen (c := [.regulator]) (frame_raiseIf _ (s.rtot = 0) .ballastNone) rfl rfl
  exact none.andThen (frame_postAll _ _) rfl rfl

theorem frame_takeUpdate (f : Nat) : Frame [.regulator] s (s.takeUpdate f) := by
  have due : Frame [.regulator] s
      (if s.brg.transferEnable then (s.transfer 1).settleRegulation else s) :=
    Frame.ite (fun _ => (frame_transfer s 1).trans (frame_settleRegulation _)) (fun _ => Frame.refl)
  exact due.trans (Frame.ite (fun _ => frame_update _ f) (fun _ => Frame.refl))

theorem frame_changeLine (m : LineMonitor) : Frame [] s (s.changeLine m) := Frame.intro rfl

theorem frame_clearRing (m : LineMonitor) : Frame [] s (s.clearRing m) := by
  unfold State.clearRing
  split <;> [exact frame_changeLine _ _; exact (Frame.intro rfl)]

theorem frame_invalidPeriod : Frame [] s s.invalidPeriod :=
  Frame.ite (fun _ => frame_clearRing _ _) (fun _ => Frame.intro rfl)

theorem frame_validPeriod (p : Nat) : Frame [] s (s.validPeriod p) :=
  Frame.ite (fun _ => (frame_changeLine _ _).trans (frame_post _ _))
    (fun _ => Frame.ite (fun _ => Frame.intro rfl) (fun _ => Frame.intro rfl))

theorem frame_takePeriod (p : Nat) : Frame [] s (s.takePeriod p) :=
  Frame.ite (fun _ => Frame.intro rfl)
    (fun _ => Frame.ite (fun _ => frame_invalidPeriod s) (fun _ => frame_validPeriod s p))

theorem frame_recordEdge (p : Polarity) : Frame [] s (s.recordEdge p) :=
  Frame.ite (fun _ => frame_changeLine _ _) (fun _ => Frame.intro rfl)

theorem frame_setLine (m : LineMonitor) : Frame [] s { s with lnm := m } := Frame.intro rfl

theorem frame_captureEdge (p : Polarity) : Frame [] s (s.captureEdge p) := by
  unfold State.captureEdge
  cases p with
  | falling => exact frame_setLine s _
  | rising =>
    cases h : s.lnm.lastRise with
    | none => exact frame_setLine s _
    | some t => exact (frame_setLine s _).trans (frame_takePeriod _ _)

theorem frame_acceptEdge (p : Polarity) : Frame [] s (s.acceptEdge p) :=
  ((frame_recordEdge s p).trans (frame_captureEdge _ p)).trans (frame_post _ _)

theorem frame_enterReference (r : Reference) : Frame [] s (s.enterReference r) := Frame.intro rfl

theorem frame_qualifyWindow (g : Bool) : Frame [] s (s.qualifyWindow g) :=
  Frame.ite (fun _ => Frame.ite (fun _ => (frame_post s _).trans (frame_enterReference _ _))
    (fun _ => Frame.intro rfl)) (fun _ => Frame.intro rfl)

theorem frame_crystalLoss : Frame [] s s.crystalLoss :=
  ((frame_post s _).trans (frame_enterReference _ _)).trans (frame_raise _ _)

end
end Sys2Proof.Machine
end

section
/-! PROOFS. The frame of each shared operation of the Load Table Controller, Shed Controller, Rota Player,
Turbine Supervisor, ports, Settings Store and start-up. -/

namespace Sys2Proof.Machine

/-- What a write of an entry's fields and its consequences touch. -/
abbrev writing : List Part := .essentials :: .watts :: moving

section
variable (s : State)

/-! ### Load Table Controller -/

theorem frame_storeFields (e : Entry) (f : Fields) :
    Frame [.entries, .essentials, .watts] s (s.storeFields e f) := by
  have stored : Frame [.reserved, .entries, .essentials, .watts] s (s.storeFields e f) := Frame.intro rfl
  refine stored.without fun x k h => ?_
  by_cases hx : x = e
  · subst hx; rwa [State.entryState, State.storeFields, load_setLoad_same] at h
  · rwa [State.entryState, State.storeFields, load_setLoad_other s _ hx] at h

theorem frame_writeMove (e : Entry) (old : Fields) : Frame moving s (s.writeMove e old) := by
  unfold State.writeMove
  simp only
  split_ifs
  · exact frame_wantEntry s e _
  · exact Frame.refl
  · exact frame_moveEntry s e _ _ rfl
  · exact frame_moveEntry s e _ _ rfl
  · exact frame_moveEntry s e _ _ rfl
  · exact Frame.refl

theorem frame_requeue (e : Entry) : Frame [.places] s (s.requeue e) := Frame.intro rfl

theorem frame_writeConsequences (e : Entry) (old : Fields) :
    Frame moving s (s.writeConsequences e old) := by
  have moved := frame_writeMove s e old
  unfold State.writeConsequences
  simp only
  split_ifs
  · exact moved.andThen (frame_requeue _ e) rfl rfl
  · exact moved

theorem frame_writeFields (e : Entry) (m : FieldMask) (new : Fields) :
    Frame writing s (s.writeFields e m new).1 := by
  unfold State.writeFields
  simp only
  split
  · exact Frame.refl
  · exact (frame_storeFields s e _).andThen (frame_writeConsequences _ e _) rfl rfl

theorem frame_writeAs (p : Port) (e : Entry) (m : FieldMask) (new : Fields) :
    Frame writing s (s.writeAs p e m new).1 := by
  unfold State.writeAs
  split_ifs <;> [exact frame_writeFields s e m new; exact Frame.refl]

theorem frame_fill (p : Port) (l : List Entry) (acc : State × List Byte) :
    Frame writing acc.1 (l.foldl (fillOne p) acc).1 := by
  induction l generalizing acc with
  | nil => exact Frame.refl
  | cons e es ih => exact (frame_writeAs acc.1 p e _ _).trans (ih _)

theorem frame_applySlot (a : AllowedSet) : Frame moving s (s.applySlot a) :=
  (Frame.forEntries (fun s e => frame_moveEntry s e _ _ rfl) s).trans
    (Frame.forEntries (fun s e => frame_moveEntry s e _ _ rfl) _)

theorem frame_loseEntry (e : Entry) : Frame moving s (s.loseEntry e) :=
  Frame.ite (fun _ => (frame_moveEntry s e _ _ rfl).andThen (frame_post _ _) rfl rfl)
    (fun _ => frame_moveEntry s e _ _ rfl)

theorem frame_restartEntries : Frame moving s s.restartEntries :=
  Frame.forEntries (fun s e => frame_moveEntry s e _ _ rfl) s

theorem frame_rotaStopEntries : Frame moving s s.rotaStopEntries :=
  Frame.forEntries (fun s e => frame_moveEntry s e _ _ rfl) s

/-! ### Shed Controller -/

theorem frame_changeShed (c : Shed) : Frame [.shed, .stack] s (s.changeShed c) := by
  rw [changeShed_eq]; exact Frame.intro rfl

theorem frame_shedOne : Frame moving s s.shedOne := by
  unfold State.shedOne
  split
  · exact (frame_post s _).mono rfl
  · refine Frame.ite (fun _ => ?_) (fun _ => ?_)
    · exact (frame_moveEntry s _ .off .shed rfl).andThen (frame_post _ _) rfl rfl
    · exact (frame_moveEntry s _ .shedUnderfrequency .shed rfl).trans (Frame.intro rfl)

theorem frame_shedFast : Frame (.shed :: moving) s s.shedFast :=
  (frame_shedOne s).andThen (frame_changeShed _ _) rfl rfl

theorem frame_countShort : Frame (.shed :: moving) s s.countShort :=
  Frame.ite (fun _ => (frame_shedOne s).andThen (frame_changeShed _ _) rfl rfl) (fun _ => Frame.intro rfl)

theorem frame_shedShort : Frame (.shed :: moving) s s.shedShort := by
  unfold State.shedShort
  cases s.shc.state with
  | normal | recoveryHold => exact (frame_changeShed s _).mono rfl
  | confirming | shedding => exact frame_countShort s

theorem frame_shedNeither : Frame (.shed :: moving) s s.shedNeither := by
  unfold State.shedNeither
  cases s.shc.state with
  | confirming | shedding => exact (frame_changeShed s _).mono rfl
  | normal | recoveryHold => exact Frame.refl

theorem frame_recoverEntry (e : Entry) : Frame moving s (recoverEntry s e) :=
  Frame.ite (fun _ => frame_moveEntry s e _ _ rfl) (fun _ => Frame.refl)

theorem frame_endRecovery : Frame (.shed :: moving) s s.endRecovery :=
  Frame.ite
    (fun _ => (Frame.foldl frame_recoverEntry _ s).andThen (frame_changeShed _ _) rfl rfl)
    (fun _ => Frame.refl)

theorem frame_shedLeavesRegulating : Frame [.shed] s s.shedLeavesRegulating := by
  have kept : ∀ c : Shed, c.stack = s.shc.stack → Frame [.shed] s (s.changeShed c) := fun c h =>
    Frame.without (x := .stack) ((frame_changeShed s c).mono rfl) (by rw [changeShed_eq]; exact h)
  unfold State.shedLeavesRegulating
  cases s.shc.state <;> exact kept _ rfl

theorem frame_endRestart : Frame (.shed :: moving) s s.endRestart := by
  have cleared (c : Shed) (h : c.stack = s.shc.stack) : Frame [.shed] s { s with shc := c } :=
    Frame.without (x := .stack) (Frame.intro rfl) h
  refine Frame.ite (fun _ => ?_) (fun _ => Frame.refl)
  exact ((cleared { s.shc with restartPending := false, restart := none } rfl).andThen
    (frame_restartEntries _) rfl rfl (c := .shed :: moving)).andThen (frame_notice _ _ _ _) rfl rfl

/-! ### Rota Player -/

theorem frame_setRota (r : Rota) : Frame [.rota] s { s with rtp := r } := Frame.intro rfl

theorem frame_handSlot : Frame [] s s.handSlot := frame_post s _

theorem frame_endSlot (start : Time) : Frame [.rota] s (s.endSlot start) :=
  Frame.ite
    (fun _ => ((frame_setRota s _).andThen (frame_notice _ _ _ _) rfl rfl (c := [.rota])).andThen
      (frame_handSlot _) rfl rfl)
    (fun _ => (frame_setRota s _).andThen (frame_handSlot _) rfl rfl)

theorem frame_flushSlots : Frame moving s s.flushSlots := by
  have taken (s : State) (i : Instr) : Frame moving s (takeSlotApplication s i) := by
    unfold takeSlotApplication
    split <;> [exact frame_applySlot s _; exact Frame.refl]
  have unposted (l : List Instr) : Frame [] s { s with posted := l } := Frame.intro rfl
  exact (unposted _).andThen (Frame.foldl taken _ _) rfl rfl

/-! ### Turbine Supervisor -/

/-- A part of the Turbine Supervisor replaced that keeps permit, mark and tokens. -/
theorem frame_setTurbine (t : Turbine) (hl : t.latch = s.tsv.latch)
    (hp : t.runPermit = s.tsv.runPermit) (hm : t.mark = s.tsv.mark) (ht : t.tokens = s.tsv.tokens)
    (ha : t.accrual = s.tsv.accrual) : Frame [] s { s with tsv := t } := by
  have all : Frame [.latch, .tokens, .mark, .permit] s { s with tsv := t } := Frame.intro rfl
  exact (((all.without fun h => hl.trans h).without ⟨ht, ha⟩).without hm).without ⟨hl, hp⟩

theorem frame_setAdvice (d : Direction) (x : Int) : Frame [] s (s.setAdvice d x) := by
  rw [setAdvice_eq]; exact Frame.intro rfl

theorem frame_tripWith (c : TripCause) (f : Nat) : Frame [.permit, .mark] s (s.tripWith c f) := by
  have all : Frame [.latch, .tokens, .permit, .mark] s (s.tripWith c f) := by
    rw [tripWith_frame]; exact Frame.intro rfl
  refine (all.without fun _ => tripWith_latch s c f).without ?_
  cases h : s.tsv.latch with
  | true => rw [tripWith_set s c f h]; exact ⟨rfl, rfl⟩
  | false => exact ⟨by rw [tripWith_clear s c f h], by rw [tripWith_clear s c f h]⟩

theorem frame_storeRecord (r : RegRecord) : Frame [] s (s.storeRecord r) :=
  frame_setTurbine s _ rfl rfl rfl rfl rfl

theorem frame_countLine (r : RegRecord) : Frame [.permit, .mark] s (s.countLine r) :=
  Frame.ite
    (fun _ => Frame.ite
      (fun _ => (frame_setTurbine s _ rfl rfl rfl rfl rfl).andThen (frame_tripWith _ _ _) rfl rfl)
      (fun _ => (frame_setTurbine s _ rfl rfl rfl rfl rfl).mono rfl))
    (fun _ => (frame_setTurbine s _ rfl rfl rfl rfl rfl).mono rfl)

theorem frame_countSaturated (r : RegRecord) : Frame [.permit, .mark] s (s.countSaturated r) :=
  Frame.ite
    (fun _ => Frame.ite
      (fun _ => (frame_setTurbine s _ rfl rfl rfl rfl rfl).andThen (frame_tripWith _ _ _) rfl rfl)
      (fun _ => (frame_setTurbine s _ rfl rfl rfl rfl rfl).mono rfl))
    (fun _ => (frame_setTurbine s _ rfl rfl rfl rfl rfl).mono rfl)

theorem frame_countAdvice : Frame [] s s.countAdvice := by
  rw [countAdvice_eq]
  exact Frame.ite
    (fun _ => (frame_setTurbine s _ rfl rfl rfl rfl rfl).trans (frame_setAdvice _ _ _))
    (fun _ => frame_setTurbine s _ rfl rfl rfl rfl rfl)

theorem frame_judgeWindow : Frame [] s s.judgeWindow := by
  rw [judgeWindow_eq s _ rfl]; exact Frame.intro rfl

theorem frame_openWindow : Frame [] s s.openWindow := frame_setTurbine s _ rfl rfl rfl rfl rfl

theorem frame_countWindow : Frame [] s s.countWindow := by
  rw [countWindow_eq]
  refine Frame.ite (fun _ => Frame.refl) (fun _ => Frame.ite (fun _ => frame_openWindow s)
    (fun _ => Frame.ite (fun _ => (frame_judgeWindow s).trans (frame_openWindow _)) (fun _ => ?_)))
  exact frame_setTurbine s _ rfl rfl rfl rfl rfl

theorem frame_superviseStandstill : Frame [] s s.superviseStandstill :=
  frame_setTurbine s _ rfl rfl rfl rfl rfl

theorem frame_countShaft (n : Nat) : Frame [.permit, .mark] s (s.countShaft n) :=
  Frame.ite (fun _ => Frame.refl) (fun _ => Frame.ite
    (fun _ => Frame.ite
      (fun _ => (frame_setTurbine s _ rfl rfl rfl rfl rfl).andThen (frame_tripWith _ _ _) rfl rfl)
      (fun _ => (frame_setTurbine s _ rfl rfl rfl rfl rfl).mono rfl))
    (fun _ => (frame_setTurbine s _ rfl rfl rfl rfl rfl).mono rfl))

theorem frame_capturePulse : Frame [] s s.capturePulse := frame_setTurbine s _ rfl rfl rfl rfl rfl

theorem frame_serveClose (n : Nat) : Frame [.tokens] s (s.serveClose n).1 := Frame.intro rfl

/-! ### Station ports -/

theorem frame_hunt (p : Port) : Frame [.receivers] s (s.hunt p) := frame_setPort_tx s p _ rfl

theorem frame_seen (p : Port) : Frame [] s (s.seen p) :=
  Frame.ite (fun _ => frame_setPort s p _ (by rfl) (by rfl))
    (fun _ => (frame_setPort s p _ (by rfl) (by rfl)).trans (frame_notice _ _ _ _))

theorem frame_goSilent (p : Port) : Frame (.saw :: moving) s (s.goSilent p) := by
  have silent := ((frame_setPort s p { s.port p with present := false, silence := none } rfl rfl).trans
    (frame_notice _ .portPresence p.number 0)).trans (frame_raise _ .portSilent)
  exact Frame.ite (fun _ => silent.andThen (frame_stop _ _) rfl rfl) (fun _ => silent.mono rfl)

theorem frame_dropLate (p : Port) : Frame [.receivers] s (s.dropLate p) :=
  Frame.ite (fun _ => (frame_linkFault s p _ _).andThen (frame_hunt _ p) rfl rfl) (fun _ => Frame.refl)

theorem frame_keepByte (p : Port) (b : Byte) (m : RxMode) : Frame [.receivers] s (s.keepByte p b m) :=
  frame_setPort_tx s p _ rfl

theorem frame_takeInHand (p : Port) : Frame [.senders] s (s.takeInHand p) := frame_setPort_rx s p _ rfl

theorem frame_answerSelf (p : Port) (c : Byte) (r : Result) (k : LinkKind) (f : List Byte) :
    Frame [.senders] s (s.answerSelf p c r k f) :=
  ((frame_takeInHand s p).andThen (frame_linkFault _ p k f) rfl rfl (c := [.senders])).trans
    (frame_answer _ p c r [])

theorem frame_takeFrame (p : Port) (f : List Byte) (c : Byte) (params : List Byte) :
    Frame [.senders] s (s.takeFrame p f c params) := by
  unfold State.takeFrame
  split
  · exact frame_answerSelf _ _ _ _ _ _
  · split
    · exact frame_answerSelf _ _ _ _ _ _
    · exact Frame.ite (fun _ => (frame_takeInHand s p).andThen (frame_post _ _) rfl rfl)
        (fun _ => frame_answerSelf _ _ _ _ _ _)

theorem frame_goodFrame (p : Port) (f : List Byte) (c : Byte) (params : List Byte) :
    Frame [.senders] s (s.goodFrame p f c params) := by
  unfold State.goodFrame
  simp only
  split
  · exact (frame_seen s p).andThen (frame_takeFrame _ _ _ _ _) rfl rfl
  · exact (frame_seen s p).mono rfl

theorem frame_judgeFrame (p : Port) (f : List Byte) :
    Frame [.senders, .receivers] s (s.judgeFrame p f) := by
  unfold State.judgeFrame
  simp only
  split
  · exact (frame_hunt s p).andThen (b := [.senders])
      (Frame.ite (fun _ => frame_goodFrame _ _ _ _ _) (fun _ => (frame_linkFault _ _ _ _).mono rfl)) rfl rfl
  · exact (frame_hunt s p).mono rfl

theorem frame_receive (p : Port) (b : Byte) : Frame [.senders, .receivers] s (s.receive p b) := by
  unfold State.receive
  simp only
  split
  · exact Frame.ite (fun _ => (frame_keepByte s p b _).mono rfl) (fun _ => Frame.refl)
  · exact Frame.ite (fun _ => (frame_linkFault s p _ _).andThen (frame_hunt _ p) rfl rfl)
      (fun _ => (frame_keepByte s p b _).mono rfl)
  · exact (frame_keepByte s p b _).mono rfl
  · exact Frame.ite (fun _ => frame_judgeFrame s p _) (fun _ => (frame_keepByte s p b _).mono rfl)

theorem frame_applyBaud (p : Port) : Frame [] s (s.applyBaud p) := by
  unfold State.applyBaud
  split
  · exact (frame_setPort s p _ (by rfl) (by rfl)).trans (frame_setPort _ _ _ (by rfl) (by rfl))
  · exact Frame.refl

theorem frame_dropPortKeeps (p : Port) : Frame [.notices, .fills] s (s.dropPortKeeps p) := Frame.intro rfl

theorem frame_resetPort (p : Port) : Frame [.receivers, .notices, .fills] s (s.resetPort p) :=
  ((frame_hunt s p).andThen (frame_dropPortKeeps _ p) rfl rfl (c := [.receivers, .notices, .fills])).andThen
    (frame_setPort _ p _ (by rfl) (by rfl)) rfl rfl

/-! ### Settings Store -/

theorem frame_setSettings (v : Settings) : Frame [.settings] s { s with settings := v } := Frame.intro rfl

theorem frame_setDevice (d : DeviceSettings) : Frame [.settings] s (s.setDevice d) := Frame.intro rfl

theorem frame_writeRegulation (i x : Nat) (v : Int) :
    Frame [.regulator] s (s.writeRegulation i x v).1 := by
  unfold State.writeRegulation
  split <;> [exact frame_setRegulator s _; exact Frame.refl]

theorem frame_writeSupervision (i : Nat) (v : Int) :
    Frame [.settings] s (s.writeSupervision i v).1 := by
  have touched : Frame [] { s with settings := { s.settings with supervision := (s.settings.supervision.write i v).1 } }
      { s with
        settings := { s.settings with supervision := (s.settings.supervision.write i v).1 }
        tsv := s.tsv.afterWrite i } := by
    unfold Turbine.afterWrite
    split <;> exact frame_setTurbine _ _ rfl rfl rfl rfl rfl
  have written := (frame_setSettings s _).andThen touched rfl rfl (c := [.settings])
  unfold State.writeSupervision
  simp only
  split_ifs
  · exact Frame.refl
  · exact written
  · exact written.andThen (frame_superviseStandstill _) rfl rfl

/-- What a write of the admission group can touch beside the settings. -/
abbrev expiring : List Part := .shed :: .saw :: .delta :: moving

theorem frame_afterAdmissionWrite (i : Nat) : Frame expiring s (s.afterAdmissionWrite i) := by
  unfold State.afterAdmissionWrite
  split
  · exact (((frame_expireSlot s 0).trans (frame_expireSlot _ 1)).trans
      (frame_expireSlot _ 2)).andThen (frame_expireSlot _ 3) rfl rfl
  · exact (frame_endRecovery s).mono rfl
  · exact (frame_endRestart s).mono rfl
  · exact (frame_expireSawWait s).mono rfl
  · exact (frame_endDwell s).mono rfl
  · exact (frame_endDeadTime s).mono rfl
  · exact Frame.refl

theorem frame_writeAdmission (i : Nat) (v : Int) :
    Frame (.settings :: expiring) s (s.writeAdmission i v).1 :=
  (frame_setSettings s _).andThen (frame_afterAdmissionWrite _ i) rfl rfl

theorem frame_writeLoadDefault (p : Port) (e : Entry) (i : Nat) (v : Int) :
    Frame writing s (s.writeLoadDefault p e i v).1 := by
  unfold State.writeLoadDefault
  split
  · split
    · exact Frame.refl
    · exact frame_writeFields s e _ _
  · exact Frame.refl

theorem frame_writeSlotPeriod (v : Int) :
    Frame [.settings, .rota] s (s.writeSlotPeriod v).1 := by
  have set := frame_setSettings s { s.settings with slotPeriod := fit 1 240 v }
  unfold State.writeSlotPeriod
  simp only
  split
  · exact set.andThen (frame_endSlot _ _) rfl rfl
  · exact set.mono rfl

theorem frame_writeSilence (q : Port) (v : Int) : Frame [.settings] s (s.writeSilence q v).1 := by
  have set := frame_setDevice s
    { s.settings.device with silence := s.settings.device.silence.set q (fit 0 600 v) }
  unfold State.writeSilence
  simp only
  split
  · exact set.andThen (frame_setPort _ _ _ (by rfl) (by rfl)) rfl rfl
  · exact set

theorem frame_writeBaud (p q : Port) (v : Int) : Frame [.settings] s (s.writeBaud p q v).1 := by
  unfold State.writeBaud
  split
  · exact (frame_setDevice s _).andThen (frame_setPort _ _ _ (by rfl) (by rfl)) rfl rfl
  · exact Frame.refl

theorem frame_writeCoded (i x : Nat) (v : Int) : Frame [.settings, .faults] s (s.writeCoded i x v).1 := by
  unfold State.writeCoded
  simp only
  split
  · exact (frame_setDevice s _).andThen (frame_judgeAlarm _) rfl rfl
  · exact (frame_setDevice s _).andThen (frame_judgeAlarm _) rfl rfl
  · exact (frame_setDevice s _).mono rfl

theorem frame_writeDevice (p : Port) (i x : Nat) (v : Int) :
    Frame [.settings, .faults] s (s.writeDevice p i x v).1 := by
  unfold State.writeDevice
  simp only
  split
  · exact (frame_setDevice s _).mono rfl
  · exact (frame_setDevice s _).mono rfl
  · exact (frame_writeBaud s p _ v).mono rfl
  · exact (frame_writeSilence s _ v).mono rfl
  · exact frame_writeCoded s _ x v

theorem frame_writeItem (p : Port) (g i x : Nat) (v : Int) :
    Frame (.settings :: .regulator :: .rota :: .faults :: .essentials :: .watts :: expiring) s
      (s.writeItem p g i x v).1 := by
  unfold State.writeItem
  split
  · exact (frame_writeRegulation s i x v).mono rfl
  · exact (frame_writeSupervision s i v).mono rfl
  · exact (frame_writeAdmission s i v).mono rfl
  · exact (frame_writeLoadDefault s p _ i v).mono rfl
  · exact (frame_writeSlotPeriod s v).mono rfl
  · exact (frame_writeDevice s p i x v).mono rfl

theorem frame_startAreaWrite : Frame [.mark, .saves] s s.startAreaWrite :=
  Frame.ite (fun _ => Frame.intro rfl) (fun _ => Frame.refl)

theorem frame_runSave : Frame [.saves] s s.runSave := Frame.intro rfl

/-! ### Full reset and start-up -/

/-- What a full reset touches: everything but the nonvolatile store, and it makes no entry RESERVED and
closes no contactor. -/
abbrev volatile : List Part :=
  [.phase, .settings, .regulator, .firing, .entries, .essentials, .watts, .relays, .chain, .fills, .places,
   .stack, .shed, .rota, .saw, .permit, .mark, .tokens, .receivers, .senders, .notices, .faults, .saves,
   .clock, .latch]

/-- Every entry is OFF after a full reset, with no relay closed and no field but the mill house's essential
(R72). -/
theorem load_enterPhase (ph : Phase) (v : Supply) (e : Entry) :
    (s.enterPhase ph v).load e =
      { Load.rest with fields := { Fields.none with essential := decide (e = 15) } } := by
  show ((Vector.replicate 16 Load.rest).set 15
    { Load.rest with fields := { Fields.none with essential := true } }).get e = _
  revert e; decide

theorem frame_enterPhase (ph : Phase) (v : Supply) : Frame volatile s (s.enterPhase ph v) := by
  have all : Frame (.reserved :: .delta :: volatile) s (s.enterPhase ph v) := Frame.intro rfl
  refine (all.without fun e k h => ?_).without (fun h => by cases h)
  rw [State.entryState, load_enterPhase] at h
  cases h

/-- What the end of the load takes up. -/
abbrev loading : List Part :=
  [.settings, .regulator, .firing, .entries, .essentials, .watts, .chain, .rota, .permit, .latch, .faults]

theorem load_takeLoad (e : Entry) :
    s.takeLoad.load e = (s.sst.image.loaded.loads.get e).load e := by
  show (Vector.ofFn fun e => (s.sst.image.loaded.loads.get e).load e).get e = _
  simp [Vector.get_eq_getElem]

theorem frame_takeLoad : Frame loading s s.takeLoad := by
  have all : Frame (.receivers :: .senders :: .mark :: .tokens :: .reserved :: loading) s s.takeLoad :=
    (Frame.intro rfl)
  have turbine : s.takeLoad.tsv.mark = s.tsv.mark ∧ s.takeLoad.tsv.tokens = s.tsv.tokens
      ∧ s.takeLoad.tsv.accrual = s.tsv.accrual := by
    show (s.tsv.load s.sst.tripArea).mark = _ ∧ (s.tsv.load s.sst.tripArea).tokens = _
      ∧ (s.tsv.load s.sst.tripArea).accrual = _
    unfold Turbine.load
    split <;> exact ⟨rfl, rfl, rfl⟩
  have ports : s.takeLoad.receivers = s.receivers ∧ s.takeLoad.senders = s.senders :=
    ⟨funext fun p => by cases p <;> rfl, funext fun p => by cases p <;> rfl⟩
  refine ((((all.without ports.1).without ports.2).without turbine.1).without turbine.2).without ?_
  intro e k h
  rw [State.entryState, load_takeLoad] at h
  cases h

theorem frame_loadRaises : Frame [.faults] s s.loadRaises := by
  have defaulted : Frame [.faults] s
      (if s.sst.image.defaulted then s.takeRaise ⟨.settingsDefaulted, .other⟩ else s) :=
    Frame.ite (fun _ => frame_takeRaise s _) (fun _ => Frame.refl)
  exact defaulted.trans (Frame.ite (fun _ => frame_takeRaise _ _) (fun _ => Frame.refl))

theorem frame_startPresence : Frame [] s s.startPresence :=
  Frame.foldl (fun s p => frame_setPort s p _ (by rfl) (by rfl)) _ s

theorem frame_readAuxiliaries : Frame [.saw, .faults] s s.readAuxiliaries := by
  unfold State.readAuxiliaries
  split
  · refine Frame.andThen (a := [.saw]) ?_ (frame_takeRaise _ _) rfl rfl
    exact Frame.intro rfl
  · exact Frame.refl

/-- What the completion of start-up touches. -/
abbrev completing : List Part := .phase :: .permit :: .regulator :: .shed :: .saw :: .faults :: moving

/-- Service begun: the phase, the notice clock and the presence timers (R161, R177). -/
def State.startService (s : State) : State :=
  { s with phase := .running, clockMs := 0, clockUs := 0 }.startPresence

/-- RUN_PERMIT and the trip time reference at the completion of start-up (R142, R147). -/
def State.startPermit (s : State) : State :=
  { s with
    tsv :=
      { s.tsv with
        runPermit := !s.tsv.latch
        reference := if s.tsv.latch then .since s.timebase else s.tsv.reference } }

/-- The line-loss timer started at the completion of start-up (R95). -/
def State.startLineLoss (s : State) : State :=
  { s with shc := { s.shc with lineLoss := some s.timebase } }

/-- The entries wanted at start (R74). -/
def State.startEntries (s : State) : State :=
  s.forEntries (fun s e => (s.load e).fields.startWanted) (fun s e => s.wantEntry e .startUp)

/-- The acts of the completion of start-up, in the model's order (R177; log 52). -/
theorem completeStartUp_eq :
    s.completeStartUp =
      s.startService.startPermit.settleRegulation.startLineLoss.readAuxiliaries.startEntries := rfl

theorem frame_startService : Frame [.phase] s s.startService :=
  Frame.andThen (a := [.phase]) (t := { s with phase := .running, clockMs := 0, clockUs := 0 })
    (Frame.intro rfl) (frame_startPresence _) rfl rfl

theorem frame_startPermit : Frame [.permit] s s.startPermit := Frame.intro rfl

theorem frame_startLineLoss : Frame [.shed] s s.startLineLoss := Frame.intro rfl

theorem frame_startEntries : Frame moving s s.startEntries :=
  Frame.forEntries (fun s e => frame_wantEntry s e .startUp) s

theorem frame_completeStartUp : Frame completing s s.completeStartUp := by
  have permitted := (frame_startService s).andThen (frame_startPermit _) rfl rfl (c := completing)
  have settled := permitted.andThen (frame_settleRegulation _) rfl rfl (c := completing)
  have timed := settled.andThen (frame_startLineLoss _) rfl rfl (c := completing)
  have watched := timed.andThen (frame_readAuxiliaries _) rfl rfl (c := completing)
  exact watched.andThen (frame_startEntries _) rfl rfl

end
end Sys2Proof.Machine
end

section
/-! PROOFS. The frame of every command, and what every request is: a taking by its owner through the one
operation for requests. -/

namespace Sys2Proof.Machine

/-- The parts a command can touch, but for the response side of its port. -/
def alters : Instr → List Part
  | .fullResetAssert _ | .fullResetRelease _ _ => volatile
  | .settingsLoadEnd => loading ++ completing
  | .regulationUpdate _ | .applyRegulation _ | .lineStateAtRegulator _ => [.regulator]
  | .halfCycleStart _ | .gatePulseDue _ | .gatePulseEnd _ | .recordAtFiring _ | .demandChange _
  | .regStateAtFiring _ | .lineStateAtFiring _ => [.firing]
  | .recordAtAdmission _ => .reserved :: moving
  | .writeEntry .. | .fillEntries .. => writing
  | .setFill .. => [.fills]
  | .chainPlace .. | .chainRemove .. => [.chain]
  | .reservationExpiry _ | .sawStoppedReport | .slotApplication _ | .lineLossRequest => moving
  | .recordAtShed _ | .recoveryHoldExpiry | .restartHoldExpiry => .shed :: moving
  | .regStateAtShed _ | .lineStateAtShed _ => [.shed]
  | .lineLossTimerExpiry => [.shed, .stack]
  | .rotaWrite .. | .rotaStart .. | .rotaSplit .. | .slotTimerSecond | .slotTimerExpiry => [.rota]
  | .rotaStop _ => .rota :: moving
  | .sawStart .. => .watts :: .saw :: moving
  | .sawWaitExpiry | .beginSignal | .stoppingLimitExpiry | .sawEstopChange _ | .sawStop _
  | .stopFromLoadTable _ | .clearSawFault _ | .presenceTimerExpiry _ => .saw :: moving
  | .auxChange .. => .delta :: .saw :: moving
  | .starDwellExpiry | .checkTimerExpiry _ => [.saw]
  | .deadTimeExpiry => [.saw, .delta]
  | .recordAtTurbine _ | .shaftPulse | .trip _ => [.permit, .mark]
  | .tripReset _ => [.permit, .mark, .latch]
  | .gateClose .. | .tokenGain => [.tokens]
  | .tripAreaWriteStart | .saveSettings _ => [.mark, .saves]
  | .tripAreaWriteEnd => [.mark, .saves, .tripArea]
  | .saveRunStart => [.saves]
  | .saveEnd _ => [.mark, .saves, .image]
  | .rxByte .. | .frameTimeout _ => [.receivers]
  | .lineBreak _ | .portReset _ => [.receivers, .notices, .fills]
  | .noticeDelivery .. | .setNoticeControl .. | .takeNotices .. => [.notices]
  | .faultRaise _ | .clearFaults .. => [.faults]
  | .writeSetting .. => .settings :: .regulator :: .rota :: .faults :: .essentials :: .watts :: expiring
  | _ => []

/-! ### Results of taken requests -/

theorem writeFields_known (s : State) (e : Entry) (m : FieldMask) (new : Fields) :
    (s.writeFields e m new).2 ≠ .unknown := by
  unfold State.writeFields
  simp only
  split
  · exact Result.noConfusion
  · split <;> exact Result.noConfusion

theorem writeAs_known (s : State) (p : Port) (e : Entry) (m : FieldMask) (new : Fields) :
    (s.writeAs p e m new).2 ≠ .unknown := by
  unfold State.writeAs
  split
  · exact writeFields_known s e m new
  · exact Result.noConfusion

theorem fitResult_known (lo hi : Nat) (v : Int) : fitResult lo hi v ≠ .unknown := by
  unfold fitResult; split <;> exact Result.noConfusion

theorem writeRegulation_known (s : State) (i x : Nat) (v : Int) :
    (s.writeRegulation i x v).2 ≠ .unknown := by
  unfold State.writeRegulation
  split
  · next r result h =>
    unfold RegParams.write at h
    split at h
    all_goals
      first
      | (obtain ⟨y, -, hy⟩ := Option.map_eq_some_iff.mp h; cases hy; exact Result.noConfusion)
      | (cases h; exact fitResult_known _ _ _)
  · exact Result.noConfusion

theorem writeSupervision_known (s : State) (i : Nat) (v : Int) :
    (s.writeSupervision i v).2 ≠ .unknown := by
  have item : (s.settings.supervision.write i v).2 ≠ .unknown := by
    unfold SupervisionSettings.write
    split
    case h_3 => unfold shaftLimitResult; dsimp only; split <;> exact Result.noConfusion
    all_goals exact fitResult_known _ _ _
  unfold State.writeSupervision
  simp only
  split
  · exact Result.noConfusion
  · exact item

theorem writeAdmission_known (s : State) (i : Nat) (v : Int) : (s.writeAdmission i v).2 ≠ .unknown := by
  show (s.settings.admission.write i v).2 ≠ .unknown
  unfold AdmissionSettings.write
  split <;> exact fitResult_known _ _ _

theorem writeLoadDefault_known (s : State) (p : Port) (e : Entry) (i : Nat) (v : Int) :
    (s.writeLoadDefault p e i v).2 ≠ .unknown := by
  unfold State.writeLoadDefault
  split
  · split
    · exact Result.noConfusion
    · dsimp only
      split
      · exact Result.noConfusion
      · exact writeFields_known s e _ _
  · exact Result.noConfusion

theorem writeDevice_known (s : State) (p : Port) (i x : Nat) (v : Int) :
    (s.writeDevice p i x v).2 ≠ .unknown := by
  unfold State.writeDevice
  dsimp only
  split
  case h_3 => unfold State.writeBaud; split <;> exact Result.noConfusion
  case h_5 => unfold State.writeCoded; dsimp only; split <;> exact fitResult_known _ _ _
  all_goals exact fitResult_known _ _ _

theorem writeItem_known (s : State) (p : Port) (g i x : Nat) (v : Int) :
    (s.writeItem p g i x v).2 ≠ .unknown := by
  unfold State.writeItem
  split
  · exact writeRegulation_known s i x v
  · exact writeSupervision_known s i v
  · exact writeAdmission_known s i v
  · exact writeLoadDefault_known s p _ i v
  · exact fitResult_known _ _ _
  · exact writeDevice_known s p i x v

/-! ### Requests -/

/-- What is said of a request's taking: what it touches, and that its result is a known one. -/
def Takes (a : List Part) (s : State) (t : Taking) : Prop := Frame a s t.1 ∧ t.2.1 ≠ .unknown

namespace Takes

variable {a : List Part} {s t : State}

theorem refuse {r : Result} (h : r ≠ .unknown := by exact Result.noConfusion) :
    Takes a s (s.refuse r) := ⟨Frame.refl, h⟩

/-- A taking that changes nothing and answers with data. -/
theorem report {r : Result} {d : List Byte} (h : r ≠ .unknown := by exact Result.noConfusion) :
    Takes a s (s, r, d) := ⟨Frame.refl, h⟩

theorem draw {d : List Byte} : Takes a s (s.draw, .done, d) :=
  ⟨(frame_draw s).mono_of_subset (by simp), Result.noConfusion⟩

theorem done (h : Frame a s t) : Takes a s t.done := ⟨h, Result.noConfusion⟩

end Takes

/-- A saw start taken (R124): SAW WAITING, entry 14 WAITING with its watts, and the saw request. -/
def State.sawStarted (s : State) (w : Nat) (d : Bool) : State :=
  let t := s.changeStage { s.sws with stage := .waiting, lastStop := none } .sawStart
  let t := t.setLoad sawEntry
    { t.load sawEntry with fields := { (t.load sawEntry).fields with watts := w } }
  let t := t.moveEntry sawEntry .waiting .sawStart
  { t with
    adu :=
      { t.adu with
        saw := some
          { surge := w, displace := d, displaced := false, inserted := s.timebase, refused := false } } }

/-- The declared watts of one entry replaced. -/
theorem frame_setWatts (t : State) (e : Entry) (w : Nat) :
    Frame [.watts] t
      (t.setLoad e { t.load e with fields := { (t.load e).fields with watts := w } }) := by
  have h : ∀ x, ((t.setLoad e
      { t.load e with fields := { (t.load e).fields with watts := w } }).load x) =
        { t.load x with fields := { (t.load x).fields with watts := if x = e then w else (t.load x).fields.watts } } :=
    fun x => by
      by_cases hx : x = e
      · subst hx; rw [load_setLoad_same, if_pos rfl]
      · rw [load_setLoad_other t _ hx, if_neg hx]
  have all : Frame [.entries, .essentials, .reserved, .watts] t
      (t.setLoad e { t.load e with fields := { (t.load e).fields with watts := w } }) := Frame.intro (by rfl)
  refine ((all.without ⟨?_, ?_⟩).without ?_).without ?_
  · exact funext fun x => by simp only [State.entryState, h]
  · exact funext fun x => by simp only [State.wanteds, h]
  · exact funext fun x => by simp only [State.essentials, h]
  · exact fun x k hk => by simpa only [State.entryState, h] using hk

theorem frame_sawStarted (s : State) (w : Nat) (d : Bool) :
    Frame (.watts :: .saw :: moving) s (s.sawStarted w d) := by
  have staged := frame_changeStage s { s.sws with stage := .waiting, lastStop := none } .sawStart id
  have moved := (staged.andThen (frame_setWatts _ sawEntry w) rfl rfl (c := .watts :: .saw :: moving)).andThen
    (frame_moveEntry _ sawEntry .waiting .sawStart rfl) rfl rfl (c := .watts :: .saw :: moving)
  exact moved.trans (Frame.intro (by rfl))

/-- Every request is taken by its owner through `State.request`: the taking touches what the command alters,
and never answers UNKNOWN (section 10.1). -/
theorem exec_request (i : Instr) (n : RequestName) (p : Port) (params : List Byte)
    (h : i.asRequest = some (n, p, params)) :
    ∃ body, (∀ s, exec i s = .next (s.request n i p body)) ∧ ∀ s, Takes (alters i) s (body s) := by
  cases i with
  | retryReference q =>
    cases h
    refine ⟨_, fun _ => rfl, fun s => ?_⟩
    dsimp only [alters]
    split <;> [exact .done (frame_enterReference s _); exact .refuse]
  | applyRegulation q =>
    cases h
    refine ⟨_, fun _ => rfl, fun s => ?_⟩
    dsimp only [alters]
    split
    · exact .done (frame_setRegulator s _)
    · exact .done ((frame_transfer s 0).trans (frame_settleRegulation _))
  | writeEntry q b f w m =>
    cases h
    refine ⟨_, fun _ => rfl, fun s => ?_⟩
    dsimp only [alters]
    split
    · exact .refuse
    · exact ⟨frame_writeAs s _ _ _ _, writeAs_known s _ _ _ _⟩
  | fillEntries q b sel =>
    cases h
    refine ⟨_, fun _ => rfl, fun s => ?_⟩
    dsimp only [alters]
    split
    · exact .refuse
    · exact ⟨frame_fill _ _ (s, []), Result.noConfusion⟩
  | setFieldMask q m =>
    cases h; exact ⟨_, fun _ => rfl, fun s => .done (Frame.intro (by rfl))⟩
  | setFill q f w =>
    cases h
    refine ⟨_, fun _ => rfl, fun s => ?_⟩
    dsimp only [alters]
    exact ⟨(Frame.intro (by rfl)), by dsimp only; split <;> exact Result.noConfusion⟩
  | readEntry q b =>
    cases h
    refine ⟨_, fun _ => rfl, fun s => ?_⟩
    dsimp only [alters]
    split <;> [exact .refuse; exact .report]
  | chainPlace q b a =>
    cases h
    refine ⟨_, fun _ => rfl, fun s => ?_⟩
    dsimp only [alters]
    split
    · split <;> [exact .refuse; exact .done (Frame.intro (by rfl))]
    · exact .refuse
  | chainRemove q b =>
    cases h
    refine ⟨_, fun _ => rfl, fun s => ?_⟩
    dsimp only [alters]
    split
    · exact .refuse
    · split <;> [exact .done (Frame.intro (by rfl)); exact .refuse]
  | readChain q => cases h; exact ⟨_, fun _ => rfl, fun s => .report⟩
  | rotaWrite q page first sets =>
    cases h
    refine ⟨_, fun _ => rfl, fun s => ?_⟩
    dsimp only [alters]
    split
    · exact .refuse
    · split <;> [exact .done (frame_setRota s _); exact .refuse]
  | rotaStart q page tap =>
    cases h
    refine ⟨_, fun _ => rfl, fun s => ?_⟩
    dsimp only [alters]
    split
    · exact .done ((frame_setRota s _).andThen (frame_handSlot _) rfl rfl)
    · exact .refuse
  | rotaSplit q page tap =>
    cases h
    refine ⟨_, fun _ => rfl, fun s => ?_⟩
    dsimp only [alters]
    split
    · split
      · exact .refuse
      · split <;> [exact .refuse; exact .done (frame_setRota s _)]
    · exact .refuse
  | rotaStop q =>
    cases h
    refine ⟨_, fun _ => rfl, fun s => ?_⟩
    dsimp only [alters]
    split
    · exact .done (((frame_flushSlots s).andThen (frame_setRota _ _) rfl rfl (c := .rota :: moving)).andThen
        (frame_rotaStopEntries _) rfl rfl)
    · exact .done Frame.refl
  | readRota q sel =>
    cases h
    refine ⟨_, fun _ => rfl, fun s => ?_⟩
    dsimp only [alters]
    split <;> [exact .refuse; exact .draw]
  | sawStart q surge b =>
    cases h
    refine ⟨_, fun _ => rfl, fun s => ?_⟩
    dsimp only [alters]
    split
    · exact .refuse
    split_ifs
    · exact .refuse
    · exact .refuse
    · exact .refuse
    · exact .refuse
    · exact ⟨frame_sawStarted s _ _, Result.noConfusion⟩
    · exact ⟨frame_sawStarted s _ _, Result.noConfusion⟩
  | sawStop q => cases h; exact ⟨_, fun _ => rfl, fun s => .done (frame_stop s _)⟩
  | clearSawFault q =>
    cases h
    refine ⟨_, fun _ => rfl, fun s => ?_⟩
    dsimp only [alters]
    split_ifs
    · exact .refuse
    · exact .refuse
    · exact .done ((frame_changeStage s _ _ (by exact id)).andThen (frame_returnDisplaced _) rfl rfl)
    · exact .done (Frame.intro (by rfl))
  | trip q => cases h; exact ⟨_, fun _ => rfl, fun s => .done (frame_tripWith s _ _)⟩
  | tripReset q =>
    cases h
    refine ⟨_, fun _ => rfl, fun s => ?_⟩
    dsimp only [alters]
    split_ifs
    · exact .refuse
    · exact .refuse
    · refine .done (Frame.trans (t := { s with tsv := _ }) ?_
        (((frame_notice _ .trip 0 0).trans (frame_setAdvice _ _ _)).mono rfl))
      exact Frame.intro (by rfl)
  | gateOpen q a =>
    cases h
    refine ⟨_, fun _ => rfl, fun s => ?_⟩
    dsimp only [alters]
    split_ifs
    · exact .refuse
    · exact .refuse
    · exact .refuse
    · exact .report
  | gateClose q a =>
    cases h
    refine ⟨_, fun _ => rfl, fun s => ?_⟩
    dsimp only [alters]
    split_ifs
    · exact .refuse
    · exact .report
    · exact ⟨frame_serveClose s _, Result.noConfusion⟩
  | readTurbine q => cases h; exact ⟨_, fun _ => rfl, fun s => .draw⟩
  | portReset q => cases h; exact ⟨_, fun _ => rfl, fun s => .done (frame_resetPort s _)⟩
  | readLinkFault q b =>
    cases h
    refine ⟨_, fun _ => rfl, fun s => ?_⟩
    dsimp only [alters]
    split <;> [exact .report; exact .refuse]
  | clearLinkFault q =>
    cases h; exact ⟨_, fun _ => rfl, fun s => .done (frame_setPort s _ _ (by rfl) (by rfl))⟩
  | readStatus q b =>
    cases h
    refine ⟨_, fun _ => rfl, fun s => ?_⟩
    dsimp only [alters]
    split <;> [exact .draw; exact .refuse]
  | setNoticeControl q e hold r m =>
    cases h
    refine ⟨_, fun _ => rfl, fun s => ?_⟩
    dsimp only [alters]
    split <;> [exact .done (frame_setNotices s _ _); exact .refuse]
  | takeNotices q c =>
    cases h
    refine ⟨_, fun _ => rfl, fun s => ?_⟩
    dsimp only [alters]
    split <;> [exact ⟨frame_setNotices s _ _, Result.noConfusion⟩; exact .refuse]
  | clearFaults q k => cases h; exact ⟨_, fun _ => rfl, fun s => .done (frame_clearStatuses s _)⟩
  | readFaults q => cases h; exact ⟨_, fun _ => rfl, fun s => .report⟩
  | readSetting q g it x =>
    cases h
    refine ⟨_, fun _ => rfl, fun s => ?_⟩
    dsimp only [alters]
    split <;> [exact .report; exact .refuse]
  | writeSetting q g it x v =>
    cases h
    refine ⟨_, fun _ => rfl, fun s => ?_⟩
    dsimp only [alters]
    split
    · exact .refuse
    · split
      · exact ⟨frame_writeItem s _ _ _ _ _, writeItem_known s _ _ _ _ _⟩
      · exact .refuse
  | saveSettings q =>
    cases h
    refine ⟨_, fun _ => rfl, fun s => ?_⟩
    dsimp only [alters]
    split
    · refine .done ((frame_startAreaWrite s).trans (Frame.ite (fun _ => ?_) (fun _ => ?_)))
      · exact Frame.intro (by rfl)
      · exact (frame_runSave _).mono rfl
    · exact .refuse
  | _ => cases h

/-- The line state made known, and the regulation state settled (R25). -/
def State.knowLine (s : State) (l : LineState) : State :=
  { s with brg := { s.brg with line := l } }.settleRegulation

/-- A transfer that is due, and the regulation state settled (R23). -/
def State.dueTransfer (s : State) : State :=
  if s.brg.transferEnable then (s.transfer 1).settleRegulation else s

theorem takeUpdate_eq (s : State) (f : Nat) :
    s.takeUpdate f = if s.dueTransfer.brg.state = .regulating then s.dueTransfer.update f else s.dueTransfer :=
  rfl

/-- A valid period at the regulator (R25, R28). -/
def State.periodTaken (s : State) (v : ValidPeriod) : State :=
  match v.present with
  | some (_, f) =>
    if (s.knowLine .present).brg.state = .regulating then (s.knowLine .present).takeUpdate f
    else s.knowLine .present
  | none => s.knowLine .establishing

theorem exec_regulationUpdate (s : State) (v : ValidPeriod) :
    exec (.regulationUpdate v) s = .next (s.whenRunning fun s => s.periodTaken v) := by
  obtain ⟨_, _ | _⟩ := v <;> rfl

theorem exec_lineStateAtRegulator (s : State) (l : LineState) :
    exec (.lineStateAtRegulator l) s =
      .next (s.whenRunning fun s => if l = .absent then (s.knowLine l).startDemand else s.knowLine l) := rfl

theorem frame_knowLine (s : State) (l : LineState) : Frame [.regulator] s (s.knowLine l) :=
  (frame_setRegulator s _).trans (frame_settleRegulation _)

theorem frame_periodTaken (s : State) (v : ValidPeriod) : Frame [.regulator] s (s.periodTaken v) := by
  unfold State.periodTaken
  split
  · exact Frame.ite (fun _ => (frame_knowLine s _).trans (frame_takeUpdate _ _)) (fun _ => frame_knowLine s _)
  · exact frame_knowLine s _

/-- A save brought to its end (R171). -/
def State.saveEnded (s : State) (d : ImageData) (agrees : Bool) : State :=
  let t :=
    { s with
      sst := { s.sst with save := .idle, image := if agrees then d.stored else s.sst.image } }.notice
      .settingsSaved 0 (if agrees then 0 else 1)
  if agrees then t else t.raise .saveFailed

theorem frame_saveEnded (s : State) (d : ImageData) (agrees : Bool) :
    Frame [.mark, .saves, .image] s (s.saveEnded d agrees).startAreaWrite := by
  refine Frame.andThen (a := [.saves, .image]) ?_ (frame_startAreaWrite _) rfl rfl
  have ended : Frame [.saves, .image] s
      { s with sst := { s.sst with save := .idle, image := if agrees then d.stored else s.sst.image } } :=
    (Frame.intro (by rfl))
  have given := ended.andThen (frame_notice _ .settingsSaved 0 (if agrees then 0 else 1)) rfl rfl
    (c := [.saves, .image])
  exact given.trans (Frame.ite (fun _ => Frame.refl) (fun _ => (frame_raise _ _).mono rfl))

/-- What a command that is no request touches, by its own meaning. -/
theorem exec_event (i : Instr) (s t : State) (hi : i.asRequest = none) (h : exec i s = .next t) :
    Frame (.senders :: alters i) s t := by
  cases i with
  | fullResetAssert x =>
    cases h
    dsimp only [alters]
    split <;> [exact (frame_enterPhase s _ _).mono rfl; exact Frame.refl]
  | fullResetRelease mv high =>
    cases h
    dsimp only [alters]
    split <;> [exact (frame_enterPhase s _ _).mono rfl; exact Frame.refl]
  | settingsLoadEnd =>
    cases h
    dsimp only [alters]
    split
    · have loaded := (frame_takeLoad s).andThen (frame_loadRaises _) rfl rfl
        (c := .senders :: (loading ++ completing))
      have given := loaded.andThen (frame_giveDemand _) rfl rfl (c := .senders :: (loading ++ completing))
      exact given.andThen (frame_completeStartUp _) rfl rfl
    · exact Frame.refl
  | checkWindowEnd n =>
    cases h
    dsimp only [alters]
    refine Frame.whenReleased (fun s => ?_) s
    split
    · exact (frame_qualifyWindow s _).mono rfl
    · split <;> [exact (frame_crystalLoss s).mono rfl; exact Frame.refl]
    · exact Frame.refl
  | noGoodWindowTimeout =>
    cases h
    dsimp only [alters]
    exact Frame.whenReleased (fun s => Frame.ite
      (fun _ => ((frame_enterReference s _).trans (frame_raise _ _)).mono rfl) (fun _ => Frame.refl)) s
  | sourceSwitch =>
    cases h
    dsimp only [alters]
    refine Frame.whenReleased (fun s => ?_) s
    split <;> [exact Frame.refl; exact (frame_clearRing s _).mono rfl]
  | lineZcEdge p =>
    cases h
    dsimp only [alters]
    exact Frame.whenRunning (fun s => Frame.ite (fun _ => (frame_acceptEdge s p).mono rfl)
      (fun _ => (frame_setLine s _).mono rfl)) s
  | absenceTimerExpiry =>
    cases h
    dsimp only [alters]
    refine Frame.whenRunning (fun s => Frame.ite (fun _ => ?_) (fun _ => Frame.refl)) s
    exact ((frame_changeLine s _).trans (frame_raiseIf _ _ _)).mono rfl
  | regulationUpdate v =>
    rw [exec_regulationUpdate] at h
    cases h
    dsimp only [alters]
    exact Frame.whenRunning (fun s => (frame_periodTaken s v).mono rfl) s
  | lineStateAtRegulator l =>
    rw [exec_lineStateAtRegulator] at h
    cases h
    dsimp only [alters]
    exact Frame.whenRunning (fun s => Frame.ite
      (fun _ => (frame_knowLine s l).andThen (frame_startDemand _) rfl rfl)
      (fun _ => (frame_knowLine s l).mono rfl)) s
  | halfCycleStart c =>
    cases h
    dsimp only [alters]
    exact Frame.whenRunning (fun s => Frame.ite (fun _ => Frame.intro (by rfl)) (fun _ => Frame.refl)) s
  | gatePulseDue b =>
    cases h
    dsimp only [alters]
    exact Frame.whenRunning (fun s => Frame.ite (fun _ => Frame.intro (by rfl)) (fun _ => Frame.refl)) s
  | gatePulseEnd b =>
    cases h
    dsimp only [alters]
    exact Frame.whenRunning (fun s => Frame.ite (fun _ => Frame.intro (by rfl)) (fun _ => Frame.refl)) s
  | recordAtFiring r => cases h; dsimp only [alters]; exact Frame.whenRunning (fun s => Frame.intro (by rfl)) s
  | demandChange c =>
    cases h
    dsimp only [alters]
    refine Frame.whenRunning (fun s => ?_) s
    split <;> exact Frame.intro (by rfl)
  | regStateAtFiring c => cases h; dsimp only [alters]; exact Frame.whenRunning (fun s => Frame.intro (by rfl)) s
  | lineStateAtFiring l => cases h; dsimp only [alters]; exact Frame.whenRunning (fun s => Frame.intro (by rfl)) s
  | recordAtAdmission r =>
    cases h
    dsimp only [alters]
    refine Frame.whenRunning (fun s => ?_) s
    have given : Frame [] s { s with adu := { s.adu with floor := r.floor } } := Frame.intro (by rfl)
    exact (given.andThen (frame_arrivals _ r.wd) rfl rfl (c := .reserved :: moving)).andThen (frame_examine _ r) rfl rfl
  | regStateAtAdmission c => cases h; dsimp only [alters]; exact Frame.whenRunning (fun s => Frame.intro (by rfl)) s
  | reservationExpiry k => cases h; dsimp only [alters]; exact Frame.whenRunning (fun s => (frame_expireSlot s k).mono rfl) s
  | lastGrantTimeEmptied =>
    cases h
    dsimp only [alters]
    exact Frame.whenRunning (fun s => Frame.ite (fun _ => Frame.intro (by rfl)) (fun _ => Frame.refl)) s
  | sawWaitExpiry => cases h; dsimp only [alters]; exact Frame.whenRunning (fun s => (frame_expireSawWait s).mono rfl) s
  | sawStoppedReport =>
    cases h
    dsimp only [alters]
    exact Frame.whenRunning (fun s => Frame.ite (fun _ => Frame.refl)
      (fun _ => (frame_moveEntry s _ _ _ rfl).mono rfl)) s
  | slotApplication a => cases h; dsimp only [alters]; exact Frame.whenRunning (fun s => (frame_applySlot s a).mono rfl) s
  | lineLossRequest =>
    cases h
    dsimp only [alters]
    exact Frame.whenRunning (fun s => (Frame.forEntries frame_loseEntry s).mono rfl) s
  | recordAtShed r =>
    cases h
    dsimp only [alters]
    exact Frame.whenRunning (fun s => Frame.ite (fun _ => (frame_shedFast s).mono rfl) (fun _ =>
      Frame.ite (fun _ => (frame_shedShort s).mono rfl) (fun _ => (frame_shedNeither s).mono rfl))) s
  | recoveryHoldExpiry => cases h; dsimp only [alters]; exact Frame.whenRunning (fun s => (frame_endRecovery s).mono rfl) s
  | regStateAtShed c =>
    cases h
    dsimp only [alters]
    refine Frame.whenRunning (fun s => Frame.ite (fun _ => Frame.ite (fun _ => Frame.refl) (fun _ => ?_))
      (fun _ => Frame.ite (fun _ => (frame_shedLeavesRegulating s).mono rfl) (fun _ => Frame.refl))) s
    exact Frame.without (x := .stack) (Frame.intro (by rfl)) rfl
  | lineStateAtShed l =>
    cases h
    dsimp only [alters]
    exact Frame.whenRunning (fun s => Frame.intro (by rfl)) s
  | lineLossTimerExpiry =>
    cases h
    dsimp only [alters]
    refine Frame.whenRunning (fun s => Frame.ite (fun _ => ?_) (fun _ => Frame.refl)) s
    exact Frame.intro (by rfl)
  | restartHoldExpiry => cases h; dsimp only [alters]; exact Frame.whenRunning (fun s => (frame_endRestart s).mono rfl) s
  | slotTimerSecond =>
    cases h
    dsimp only [alters]
    exact Frame.whenRunning (fun s => Frame.ite (fun _ => (frame_setRota s _).mono rfl)
      (fun _ => Frame.refl)) s
  | slotTimerExpiry =>
    cases h
    dsimp only [alters]
    exact Frame.whenRunning (fun s => Frame.ite (fun _ => (frame_endSlot s _).mono rfl)
      (fun _ => Frame.refl)) s
  | beginSignal =>
    cases h
    dsimp only [alters]
    refine Frame.whenRunning (fun s => Frame.ite (fun _ => Frame.ite (fun _ => (frame_stop s _).mono rfl)
      (fun _ => ?_)) (fun _ => Frame.refl)) s
    exact (frame_changeStage s _ _ (fun h => by cases h)).mono rfl
  | starDwellExpiry => cases h; dsimp only [alters]; exact Frame.whenRunning (fun s => (frame_endDwell s).mono rfl) s
  | deadTimeExpiry => cases h; dsimp only [alters]; exact Frame.whenRunning (fun s => (frame_endDeadTime s).mono rfl) s
  | checkTimerExpiry k =>
    cases h
    dsimp only [alters]
    exact Frame.whenRunning (fun s => Frame.ite (fun _ => Frame.ite (fun _ => Frame.intro (by rfl))
      (fun _ => (frame_enterSawFault s k _ _).mono rfl)) (fun _ => Frame.refl)) s
  | auxChange k closed =>
    cases h
    dsimp only [alters]
    split
    · exact Frame.refl
    · have level : Frame [.saw] s { s with sws := { s.sws with aux := s.sws.aux.set k closed } } :=
        (Frame.intro (by rfl))
      refine level.andThen (b := .delta :: .saw :: moving) (Frame.whenRunning (fun t => ?_) _) rfl rfl
      exact Frame.ite (fun _ => (frame_completeChangeover t).mono rfl)
        (fun _ => (frame_uncommandedChange t k closed).mono rfl)
  | stoppingLimitExpiry =>
    cases h
    dsimp only [alters]
    refine Frame.whenRunning (fun s => Frame.ite (fun _ => ?_) (fun _ => Frame.refl)) s
    split
    · exact (frame_enterSawFault s _ _ _).mono rfl
    · exact (frame_reachOff s _ _ (by exact id)).mono rfl
  | sawEstopChange b =>
    cases h
    dsimp only [alters]
    split
    · exact Frame.refl
    · have level : Frame [.saw] s { s with sws := { s.sws with estop := b } } := Frame.intro (by rfl)
      refine level.andThen (b := .saw :: moving) (Frame.whenRunning (fun t => ?_) _) rfl rfl
      exact Frame.ite (fun _ => frame_stop t _) (fun _ => Frame.refl)
  | stopFromLoadTable c => cases h; dsimp only [alters]; exact Frame.whenRunning (fun s => (frame_stop s _).mono rfl) s
  | recordAtTurbine r =>
    cases h
    dsimp only [alters]
    refine Frame.whenRunning (fun s => ?_) s
    have counted := ((frame_storeRecord s r).andThen (frame_countLine _ r) rfl rfl (c := [.permit, .mark])).trans
      (frame_countSaturated _ r)
    exact (counted.andThen (frame_countAdvice _) rfl rfl (c := [.permit, .mark])).andThen (frame_countWindow _) rfl rfl
  | regStateAtTurbine c =>
    cases h
    dsimp only [alters]
    exact Frame.whenRunning (fun s => Frame.ite
      (fun _ => (frame_setTurbine s _ (by rfl) (by rfl) (by rfl) (by rfl) (by rfl)).mono rfl)
      (fun _ => Frame.ite
        (fun _ => (frame_setTurbine s _ (by rfl) (by rfl) (by rfl) (by rfl) (by rfl)).mono rfl)
        (fun _ => Frame.refl))) s
  | lineStateAtTurbine l =>
    cases h
    dsimp only [alters]
    exact Frame.whenRunning (fun s =>
      (frame_setTurbine s _ (by rfl) (by rfl) (by rfl) (by rfl) (by rfl)).mono rfl) s
  | shaftPulse =>
    cases h
    dsimp only [alters]
    refine Frame.whenRunning (fun s => ?_) s
    split
    · exact (frame_capturePulse s).andThen (frame_countShaft _ _) rfl rfl
    · exact (frame_capturePulse s).mono rfl
  | shaftGapTimerExpiry =>
    cases h
    dsimp only [alters]
    exact Frame.whenRunning (fun s => Frame.ite
      (fun _ => (frame_setTurbine s _ (by rfl) (by rfl) (by rfl) (by rfl) (by rfl)).mono rfl)
      (fun _ => Frame.refl)) s
  | standstillTimerExpiry =>
    cases h
    dsimp only [alters]
    exact Frame.whenRunning (fun s => Frame.ite
      (fun _ => (frame_setTurbine s _ (by rfl) (by rfl) (by rfl) (by rfl) (by rfl)).andThen
        (frame_raise _ _) rfl rfl)
      (fun _ => Frame.refl)) s
  | tripResetTimeMet =>
    cases h
    dsimp only [alters]
    exact Frame.whenRunning (fun s => Frame.ite
      (fun _ => (frame_setTurbine s _ (by rfl) (by rfl) (by rfl) (by rfl) (by rfl)).mono rfl)
      (fun _ => Frame.refl)) s
  | tokenGain =>
    cases h
    dsimp only [alters]
    exact Frame.whenRunning (fun s => Frame.ite (fun _ => Frame.intro (by rfl)) (fun _ => Frame.refl)) s
  | tripAreaWriteStart => cases h; dsimp only [alters]; exact Frame.whenRunning (fun s => (frame_startAreaWrite s).mono rfl) s
  | tripAreaWriteEnd =>
    cases h
    dsimp only [alters]
    refine Frame.whenRunning (fun s => ?_) s
    split
    · refine Frame.andThen (a := [.mark, .saves, .tripArea]) ?_ (frame_startAreaWrite _) rfl rfl
      exact Frame.intro (by rfl)
    · exact Frame.refl
  | rxByte p b level =>
    cases h
    dsimp only [alters]
    have sampled : Frame [] s { s with setupEn := level } := Frame.intro (by rfl)
    refine sampled.andThen (b := [.senders, .receivers]) (Frame.whenRunning (fun s => ?_) _) rfl rfl
    exact Frame.ite (fun _ => Frame.refl) (fun _ => (frame_dropLate s p).andThen (frame_receive _ p b) rfl rfl)
  | frameTimeout p => cases h; dsimp only [alters]; exact Frame.whenRunning (fun s => (frame_dropLate s p).mono rfl) s
  | responseStart p =>
    cases h
    dsimp only [alters]
    refine Frame.whenRunning (fun s => ?_) s
    split
    · exact Frame.ite (fun _ => frame_setPort_rx s p _ (by rfl)) (fun _ => Frame.refl)
    · exact Frame.refl
  | responseEnd p =>
    cases h
    dsimp only [alters]
    exact Frame.whenRunning (fun s => Frame.ite
      (fun _ => (frame_setPort_rx s p _ (by rfl)).andThen (frame_applyBaud _ p) rfl rfl) (fun _ => Frame.refl)) s
  | lineBreak p =>
    cases h
    dsimp only [alters]
    exact Frame.whenRunning (fun s => Frame.ite (fun _ => Frame.refl)
      (fun _ => (frame_resetPort s p).andThen (frame_setPort _ p _ (by rfl) (by rfl)) rfl rfl)) s
  | presenceTimerExpiry p =>
    cases h
    dsimp only [alters]
    exact Frame.whenRunning (fun s => Frame.ite (fun _ => (frame_goSilent s p).mono rfl)
      (fun _ => Frame.refl)) s
  | noticeDelivery k x v => cases h; dsimp only [alters]; exact Frame.whenReleased (fun s => Frame.intro (by rfl)) s
  | faultRaise x => cases h; dsimp only [alters]; exact Frame.whenReleased (fun s => (frame_takeRaise s x).mono rfl) s
  | saveRunStart =>
    cases h
    dsimp only [alters]
    exact Frame.whenRunning (fun s => Frame.ite (fun _ => (frame_runSave s).mono rfl) (fun _ => Frame.refl)) s
  | saveEnd agrees =>
    cases h
    dsimp only [alters]
    refine Frame.whenRunning (fun s => ?_) s
    split
    · exact (frame_saveEnded s _ agrees).mono rfl
    · exact Frame.refl
  | rxGoneHigh p => cases h; dsimp only [alters]; exact Frame.whenRunning (fun s => (frame_setPort s p _ (by rfl) (by rfl)).mono rfl) s
  | _ => cases hi

/-- What a command touches: the parts it alters, and the response side of its port. -/
theorem exec_frame {i : Instr} {s t : State} (h : exec i s = .next t) :
    Frame (.senders :: alters i) s t := by
  cases hi : i.asRequest with
  | none => exact exec_event i s t hi h
  | some r =>
    obtain ⟨n, p, params⟩ := r
    obtain ⟨body, hexec, htakes⟩ := exec_request i n p params hi
    rw [hexec s] at h
    cases h
    exact frame_request s fun s => (htakes s).1

end Sys2Proof.Machine
end

section
/-! PROOFS. Laws of the state by what they read: a law is kept by every step when the commands that alter
what it reads keep it. The laws of permit, alarm, receivers, bounds and store. -/

namespace Sys2Proof.Machine

/-! ### Laws and frames -/

/-- A property reads no more of the state than the parts named. -/
def Reads (P : State → Prop) (parts : List Part) : Prop :=
  ∀ s t, (∀ x ∈ parts, x.Same s t) → P s → P t

/-- No part of the first list stands in the second. -/
def Part.apart (a b : List Part) : Bool := a.all fun x => !b.contains x

theorem Part.not_mem_of_apart {a b : List Part} (h : Part.apart a b = true) : ∀ x ∈ a, x ∉ b :=
  fun x hx => by simpa using List.all_eq_true.mp h x hx

/-- A change that touches nothing a property reads keeps it. -/
theorem Reads.frame_of_disjoint {P : State → Prop} {parts touched : List Part} {s t : State}
    (hr : Reads P parts) (hf : Frame touched s t) (hd : ∀ x ∈ parts, x ∉ touched) (h : P s) : P t :=
  hr s t (fun x hx => hf x (hd x hx)) h

theorem Reads.frame {P : State → Prop} {parts touched : List Part} {s t : State} (hr : Reads P parts)
    (hf : Frame touched s t) (hd : Part.apart parts touched = true) (h : P s) : P t :=
  hr.frame_of_disjoint hf (Part.not_mem_of_apart hd) h

/-- The command alters one of the parts. -/
def altersAny (parts : List Part) (i : Instr) : Bool := parts.any (fun x => decide (x ∈ alters i))

/-- A law is kept by every step when every command that alters what it reads keeps it. -/
theorem kept_of_writers {P : State → Prop} {parts : List Part} (hr : Reads P parts)
    (hw : ∀ i s t, altersAny parts i = true → P s → exec i s = .next t → P t)
    (hp : Part.apart parts [.senders, .clock] = true) : Kept P := by
  have still {s t : State} (hf : Frame [] s t) (h : P s) : P t := hr.frame_of_disjoint hf (by simp) h
  refine kept_of_exec P (fun s q h => ?_) (fun s i h => ?_) (fun s h => ?_) (fun i s t h he => ?_)
  · exact still (Frame.intro (by rfl)) h
  · exact still (Frame.intro (by rfl)) h
  · refine hr.frame (touched := [.senders, .clock]) ?_ hp h
    rw [tick_frame]; exact Frame.intro rfl
  · by_cases hi : altersAny parts i = true
    · exact hw i s t hi h he
    · refine hr.frame_of_disjoint (exec_frame he) (fun x hx hm => ?_) h
      rcases List.mem_cons.mp hm with rfl | hm
      · exact Part.not_mem_of_apart hp _ hx (List.mem_cons_self ..)
      · exact hi (List.any_eq_true.mpr ⟨x, hx, decide_eq_true hm⟩)

/-! ### Full resets and the load -/

/-- A full reset's assertion or release changes nothing or puts the device in a phase before service. -/
theorem exec_fullReset {i : Instr} {s t : State} (h : exec i s = .next t)
    (hi : (∃ x, i = .fullResetAssert x) ∨ ∃ mv high, i = .fullResetRelease mv high) :
    t = s ∨ ∃ ph v, ph ≠ .running ∧ t = s.enterPhase ph v := by
  rcases hi with ⟨x, rfl⟩ | ⟨mv, high, rfl⟩ <;> cases h
  · split
    · exact .inr ⟨.held, _, Phase.noConfusion, rfl⟩
    · exact .inl rfl
  · dsimp only
    split
    · exact .inr ⟨.starting, _, Phase.noConfusion, rfl⟩
    · exact .inl rfl

/-- A property of every state of a full reset is kept by assertion and release. -/
theorem keeps_fullReset {P : State → Prop} {i : Instr} {s t : State} (hs : P s)
    (h : exec i s = .next t)
    (hi : (∃ x, i = .fullResetAssert x) ∨ ∃ mv high, i = .fullResetRelease mv high)
    (hp : ∀ ph v, ph ≠ .running → P (s.enterPhase ph v)) : P t := by
  rcases exec_fullReset h hi with rfl | ⟨ph, v, hph, rfl⟩
  · exact hs
  · exact hp ph v hph

/-- The end of the load acts in start-up alone. -/
theorem keeps_settingsLoadEnd {P : State → Prop} {s t : State} (hs : P s)
    (h : exec .settingsLoadEnd s = .next t)
    (hp : s.phase = .starting → P s.takeLoad.loadRaises.giveDemand.completeStartUp) : P t := by
  cases h
  split <;> [exact hp ‹_›; exact hs]

/-- A property of what a running state does is a property of `whenRunning`. -/
theorem keeps_whenRunning {P : State → Prop} {act : State → State} {s t : State} (hs : P s)
    (h : Host.Outcome.next (φ := Fault) (ρ := Refusal) (s.whenRunning act) = .next t)
    (hp : s.phase = .running → P (act s)) : P t := by
  cases h
  unfold State.whenRunning
  split <;> [exact hp ‹_›; exact hs]

theorem keeps_whenReleased {P : State → Prop} {act : State → State} {s t : State} (hs : P s)
    (h : Host.Outcome.next (φ := Fault) (ρ := Refusal) (s.whenReleased act) = .next t)
    (hp : s.phase ≠ .held → P (act s)) : P t := by
  cases h
  unfold State.whenReleased
  split <;> [exact hs; exact hp ‹_›]

/-- A property that does not read a port's response side is kept by a request when it is kept by its
owner's taking of it from a port that may send it. -/
theorem keeps_request_permitted {P : State → Prop} {parts : List Part} (hr : Reads P parts)
    (hp : Part.apart parts [.senders] = true) {n : RequestName} {i : Instr} {p : Port}
    {body : State → Taking} {s t : State} (hs : P s)
    (h : Host.Outcome.next (φ := Fault) (ρ := Refusal) (s.request n i p body) = .next t)
    (hb : s.phase = .running → n.permits p (s.setupAt p) = true → P (body s).1) : P t := by
  have answered (u : State) (r : Result) (d : List Byte) (hu : P u) : P (u.answer p n.code r d) :=
    hr.frame (frame_answer u p n.code r d) hp hu
  have recorded (u : State) (k : LinkKind) (hu : P u) : P (u.linkFault p k i.frame) :=
    hr.frame_of_disjoint (frame_linkFault u p k i.frame) (by simp) hu
  refine keeps_whenRunning hs h fun hrun => ?_
  dsimp only
  split
  · next permitted =>
    refine answered _ _ _ ?_
    split
    · exact recorded _ _ (hb hrun permitted)
    · exact recorded _ _ (hb hrun permitted)
    · exact hb hrun permitted
  · exact answered _ _ _ (recorded _ _ hs)

theorem keeps_request {P : State → Prop} {parts : List Part} (hr : Reads P parts)
    (hp : Part.apart parts [.senders] = true) {n : RequestName} {i : Instr} {p : Port}
    {body : State → Taking} {s t : State} (hs : P s)
    (h : Host.Outcome.next (φ := Fault) (ρ := Refusal) (s.request n i p body) = .next t)
    (hb : s.phase = .running → P (body s).1) : P t :=
  keeps_request_permitted hr hp hs h fun hrun _ => hb hrun

/-! ### Trips (R143, R144, R148) -/

/-- A change that touches no part, then a trip if one is due. -/
def Trips (s t : State) : Prop := Frame [] s t ∨ ∃ u c f, Frame [] s u ∧ t = u.tripWith c f

theorem Reads.trips {P : State → Prop} {parts : List Part} {s t : State} (hr : Reads P parts)
    (ht : Trips s t) (hp : ∀ u c f, P u → P (u.tripWith c f)) (h : P s) : P t := by
  rcases ht with hf | ⟨u, c, f, hf, rfl⟩
  · exact hr.frame_of_disjoint hf (by simp) h
  · exact hp u c f (hr.frame_of_disjoint hf (by simp) h)

theorem trips_countLine (s : State) (r : RegRecord) : Trips s (s.countLine r) := by
  unfold State.countLine
  split_ifs
  · exact .inr ⟨{ s with tsv := { s.tsv with lineCount := 0 } }, _, _,
      frame_setTurbine s _ rfl rfl rfl rfl rfl, rfl⟩
  · exact .inl (frame_setTurbine s _ rfl rfl rfl rfl rfl)
  · exact .inl (frame_setTurbine s _ rfl rfl rfl rfl rfl)

theorem trips_countSaturated (s : State) (r : RegRecord) : Trips s (s.countSaturated r) := by
  unfold State.countSaturated
  split_ifs
  · exact .inr ⟨{ s with tsv := { s.tsv with satCount := 0 } }, _, _,
      frame_setTurbine s _ rfl rfl rfl rfl rfl, rfl⟩
  · exact .inl (frame_setTurbine s _ rfl rfl rfl rfl rfl)
  · exact .inl (frame_setTurbine s _ rfl rfl rfl rfl rfl)

theorem trips_countShaft (s : State) (n : Nat) : Trips s (s.countShaft n) := by
  unfold State.countShaft
  dsimp only
  split_ifs
  · exact .inl Frame.refl
  · exact .inr ⟨{ s with tsv := { s.tsv with shaftCount := 0 } }, _, _,
      frame_setTurbine s _ rfl rfl rfl rfl rfl, rfl⟩
  · exact .inl (frame_setTurbine s _ rfl rfl rfl rfl rfl)
  · exact .inl (frame_setTurbine s _ rfl rfl rfl rfl rfl)

/-- A record at the Turbine Supervisor does no more than trip (R144, R150, R151). -/
theorem keeps_recordAtTurbine {P : State → Prop} {parts : List Part} (hr : Reads P parts)
    (hp : ∀ u c f, P u → P (u.tripWith c f)) {r : RegRecord} {s t : State} (hs : P s)
    (h : exec (.recordAtTurbine r) s = .next t) : P t := by
  refine keeps_whenRunning hs h fun _ => ?_
  have still {s t : State} (hf : Frame [] s t) (h : P s) : P t := hr.frame_of_disjoint hf (by simp) h
  exact still (frame_countWindow _) <| still (frame_countAdvice _) <|
    hr.trips (trips_countSaturated _ r) hp <| hr.trips (trips_countLine _ r) hp <|
    still (frame_storeRecord s r) hs

/-- A shaft pulse does no more than trip (R148). -/
theorem keeps_shaftPulse {P : State → Prop} {parts : List Part} (hr : Reads P parts)
    (hp : ∀ u c f, P u → P (u.tripWith c f)) {s t : State} (hs : P s)
    (h : exec .shaftPulse s = .next t) : P t := by
  refine keeps_whenRunning hs h fun _ => ?_
  have captured : P s.capturePulse := hr.frame_of_disjoint (frame_capturePulse s) (by simp) hs
  split
  · exact hr.trips (trips_countShaft _ _) hp captured
  · exact captured

/-! ### Run permit (R142) -/

theorem permitLaw_reads : Reads PermitLaw [.phase, .permit] := fun s t h hs => by
  have hphase : t.phase = s.phase := h .phase (by simp)
  have hpermit : Part.permit.Same s t := h .permit (by simp)
  unfold PermitLaw
  rw [hphase, hpermit.1, hpermit.2]
  exact hs

theorem permitLaw_enterPhase (s : State) (ph : Phase) (v : Supply) (h : ph ≠ .running) :
    PermitLaw (s.enterPhase ph v) :=
  ⟨fun hr => Bool.noConfusion hr, fun hr => absurd hr.1 h⟩

theorem permitLaw_tripWith (s : State) (c : TripCause) (f : Nat) (h : PermitLaw s) :
    PermitLaw (s.tripWith c f) := by
  cases hl : s.tsv.latch with
  | true =>
    rw [tripWith_set s c f hl]
    exact permitLaw_reads.frame (frame_raise s _) rfl h
  | false =>
    unfold PermitLaw
    rw [tripWith_clear s c f hl]
    exact ⟨fun hr => Bool.noConfusion hr, fun hr => Bool.noConfusion hr.2⟩

/-- At the completion of start-up RUN_PERMIT goes by the latch (R142, R177). -/
theorem permitLaw_completeStartUp (s : State) : PermitLaw s.completeStartUp := by
  have started : PermitLaw s.startService.startPermit := by
    have phase : s.startService.phase = .running := frame_startPresence _ .phase (by simp)
    show (!s.startService.tsv.latch) = true ↔ s.startService.phase = .running ∧ s.startService.tsv.latch = false
    rw [phase]
    simp
  rw [completeStartUp_eq]
  exact permitLaw_reads.frame (frame_startEntries _) rfl <|
    permitLaw_reads.frame (frame_readAuxiliaries _) rfl <|
    permitLaw_reads.frame (frame_startLineLoss _) rfl <|
    permitLaw_reads.frame (frame_settleRegulation _) rfl started

/-- Settles O2: the commands that trip set the latch and drop RUN_PERMIT together, TRIP RESET undoes both, and
the completion of start-up sets the one by the other. -/
theorem runPermitLawKept : Obligations.RunPermitLawKept := by
  refine kept_of_writers permitLaw_reads (fun i s t hi h he => ?_) rfl
  cases i with
  | fullResetAssert x => exact keeps_fullReset h he (.inl ⟨x, rfl⟩) (permitLaw_enterPhase s)
  | fullResetRelease mv b => exact keeps_fullReset h he (.inr ⟨mv, b, rfl⟩) (permitLaw_enterPhase s)
  | settingsLoadEnd => exact keeps_settingsLoadEnd h he fun _ => permitLaw_completeStartUp _
  | recordAtTurbine r => exact keeps_recordAtTurbine permitLaw_reads permitLaw_tripWith h he
  | shaftPulse => exact keeps_shaftPulse permitLaw_reads permitLaw_tripWith h he
  | trip p => exact keeps_request permitLaw_reads rfl h he fun _ => permitLaw_tripWith s _ _ h
  | tripReset p =>
    refine keeps_request permitLaw_reads rfl h he fun hrun => ?_
    dsimp only
    split_ifs
    · exact h
    · exact h
    · refine permitLaw_reads.frame (frame_setAdvice _ _ _) rfl (permitLaw_reads.frame (frame_notice _ _ _ _) rfl ?_)
      exact ⟨fun _ => ⟨hrun, rfl⟩, fun _ => rfl⟩
  | _ => nomatch hi

end Sys2Proof.Machine
end

section
/-! PROOFS. The laws of the alarm, the bounds, the receivers, the store's writes, the firing unit and the
timers: the commands that alter what each reads keep it. -/

namespace Sys2Proof.Machine

/-! ### Writes of a setting -/

/-- What every group's write keeps, the write of an item keeps. -/
theorem keeps_writeItem {P : State → Prop} (s : State) (p : Port) (g i x : Nat) (v : Int)
    (regulation : P (s.writeRegulation i x v).1) (supervision : P (s.writeSupervision i v).1)
    (admission : P (s.writeAdmission i v).1) (load : ∀ e, P (s.writeLoadDefault p e i v).1)
    (slot : P (s.writeSlotPeriod v).1) (device : P (s.writeDevice p i x v).1) :
    P (s.writeItem p g i x v).1 := by
  unfold State.writeItem
  split
  · exact regulation
  · exact supervision
  · exact admission
  · exact load _
  · exact slot
  · exact device

/-- The admission group replaced. -/
def State.withAdmission (s : State) (a : AdmissionSettings) : State :=
  { s with settings := { s.settings with admission := a } }

/-- A write to the admission group stores the item, then takes what has run out by it. -/
theorem writeAdmission_state (s : State) (i : Nat) (v : Int) :
    (s.writeAdmission i v).1 =
      (s.withAdmission (s.settings.admission.write i v).1).afterAdmissionWrite i := rfl

/-- WRITE SETTING does no more than its item's write. -/
theorem keeps_writeSetting {P : State → Prop} {parts : List Part} (hr : Reads P parts)
    (hp : Part.apart parts [.senders] = true) {p : Port} {g i x : Byte} {v : Wide} {s t : State} (hs : P s)
    (h : exec (.writeSetting p g i x v) s = .next t)
    (hw : s.phase = .running → P (s.writeItem p g.toNat i.toNat x.toNat v.toInt).1) : P t := by
  refine keeps_request hr hp hs h fun hrun => ?_
  dsimp only
  split_ifs
  · exact hs
  · exact hw hrun
  · exact hs

/-! ### Alarm (R174) -/

/-- Some kind is set, unmasked and of ALARM severity exactly when the three sets meet. -/
theorem alarmOutput_iff (status masks alarms : FaultSet) :
    alarmOutput status masks alarms = true ↔
      ∃ k : Fin 13, status.getLsbD k = true ∧ masks.getLsbD k = false ∧ alarms.getLsbD k = true := by
  have bit (k : Fin 13) : (status &&& ~~~masks &&& alarms).getLsbD k = true ↔
      status.getLsbD k = true ∧ masks.getLsbD k = false ∧ alarms.getLsbD k = true := by
    simp [and_assoc]
  have zero (k : Nat) : (0 : FaultSet).getLsbD k = false := BitVec.getLsbD_zero
  unfold alarmOutput
  rw [decide_eq_true_iff]
  constructor
  · intro h
    by_contra none
    refine h (BitVec.eq_of_getLsbD_eq fun k hk => ?_)
    rw [zero]
    exact Bool.eq_false_iff.mpr fun hb => none ⟨⟨k, hk⟩, (bit ⟨k, hk⟩).mp hb⟩
  · rintro ⟨k, hk⟩ h
    have := (bit k).mpr hk
    rw [h, zero] at this
    cases this

theorem alarmLaw_reads : Reads AlarmLaw [.faults, .settings] := fun s t h hs => by
  have hf : t.flu = s.flu := h .faults (by simp)
  have hv : t.settings = s.settings := h .settings (by simp)
  unfold AlarmLaw
  rw [hf, hv]
  exact hs

/-- The law reads no setting but the masks and severities. -/
theorem alarmLaw_device {s t : State} (hf : t.flu = s.flu) (hd : t.settings.device = s.settings.device)
    (h : AlarmLaw s) : AlarmLaw t := by
  unfold AlarmLaw
  rw [hf, hd]
  exact h

theorem alarmLaw_masks {s t : State} (hf : t.flu = s.flu)
    (hm : t.settings.device.masks = s.settings.device.masks)
    (ha : t.settings.device.alarms = s.settings.device.alarms) (h : AlarmLaw s) : AlarmLaw t := by
  unfold AlarmLaw
  rw [hf, hm, ha]
  exact h

/-- ALARM judged is ALARM as R174 has it. -/
theorem alarmLaw_judgeAlarm (s : State) : AlarmLaw s.judgeAlarm := alarmOutput_iff _ _ _

theorem alarmLaw_enterPhase (s : State) (ph : Phase) (v : Supply) : AlarmLaw (s.enterPhase ph v) := by
  show false = true ↔ ∃ k : Fin 13, (0#13).getLsbD k = true ∧ _
  simp

theorem alarmLaw_takeRaise (s : State) (x : FaultRaise) (h : AlarmLaw s) : AlarmLaw (s.takeRaise x) := by
  cases hk : s.flu.status.getLsbD x.kind.number with
  | true => rwa [takeRaise_set s x hk]
  | false => rw [takeRaise_clear s x hk]; exact alarmOutput_iff _ _ _

theorem alarmLaw_loadRaises (s : State) (h : AlarmLaw s) : AlarmLaw s.loadRaises := by
  unfold State.loadRaises
  dsimp only
  split_ifs
  · exact alarmLaw_takeRaise _ _ (alarmLaw_takeRaise _ _ h)
  · exact alarmLaw_takeRaise _ _ h
  · exact alarmLaw_takeRaise _ _ h
  · exact h

theorem alarmLaw_readAuxiliaries (s : State) (h : AlarmLaw s) : AlarmLaw s.readAuxiliaries := by
  unfold State.readAuxiliaries
  split
  · exact alarmLaw_takeRaise _ _ (alarmLaw_device (s := s) rfl rfl h)
  · exact h

theorem alarmLaw_completeStartUp (s : State) (h : AlarmLaw s) : AlarmLaw s.completeStartUp := by
  have settled := alarmLaw_reads.frame (frame_settleRegulation _) rfl <|
    alarmLaw_reads.frame (frame_startPermit _) rfl <| alarmLaw_reads.frame (frame_startService s) rfl h
  rw [completeStartUp_eq]
  exact alarmLaw_reads.frame (frame_startEntries _) rfl <| alarmLaw_readAuxiliaries _ <|
    alarmLaw_reads.frame (frame_startLineLoss _) rfl settled

theorem alarmLaw_writeSupervision (s : State) (i : Nat) (v : Int) (h : AlarmLaw s) :
    AlarmLaw (s.writeSupervision i v).1 := by
  unfold State.writeSupervision
  dsimp only
  split_ifs
  · exact h
  · exact alarmLaw_device (s := s) rfl rfl h
  · exact alarmLaw_device (s := s) rfl rfl h

theorem alarmLaw_writeAdmission (s : State) (i : Nat) (v : Int) (h : AlarmLaw s) :
    AlarmLaw (s.writeAdmission i v).1 := by
  rw [writeAdmission_state]
  exact alarmLaw_reads.frame (frame_afterAdmissionWrite _ i) rfl (alarmLaw_device (s := s) rfl rfl h)

theorem alarmLaw_writeSlotPeriod (s : State) (v : Int) (h : AlarmLaw s) :
    AlarmLaw (s.writeSlotPeriod v).1 := by
  have stored : AlarmLaw { s with settings := { s.settings with slotPeriod := fit 1 240 v } } :=
    alarmLaw_device (s := s) rfl rfl h
  unfold State.writeSlotPeriod
  dsimp only
  split
  · exact alarmLaw_reads.frame (frame_endSlot _ _) rfl stored
  · exact stored

theorem alarmLaw_writeCoded (s : State) (i x : Nat) (v : Int) (h : AlarmLaw s) :
    AlarmLaw (s.writeCoded i x v).1 := by
  unfold State.writeCoded
  dsimp only
  split
  · exact alarmLaw_judgeAlarm _
  · exact alarmLaw_judgeAlarm _
  · exact alarmLaw_masks (s := s) rfl rfl rfl h

theorem alarmLaw_writeDevice (s : State) (p : Port) (i x : Nat) (v : Int) (h : AlarmLaw s) :
    AlarmLaw (s.writeDevice p i x v).1 := by
  unfold State.writeDevice
  dsimp only
  split
  · exact alarmLaw_masks (s := s) rfl rfl rfl h
  · exact alarmLaw_masks (s := s) rfl rfl rfl h
  · unfold State.writeBaud
    split
    · exact alarmLaw_masks (s := s) rfl rfl rfl h
    · exact h
  · unfold State.writeSilence
    dsimp only
    split
    · exact alarmLaw_masks (s := s) rfl rfl rfl h
    · exact alarmLaw_masks (s := s) rfl rfl rfl h
  · exact alarmLaw_writeCoded s _ _ v h

/-- Settles O3: every operation that changes a status, a mask or a severity judges ALARM again. -/
theorem alarmLawKept : Obligations.AlarmLawKept := by
  refine kept_of_writers alarmLaw_reads (fun i s t hi h he => ?_) rfl
  cases i with
  | fullResetAssert x => exact keeps_fullReset h he (.inl ⟨x, rfl⟩) fun ph v _ => alarmLaw_enterPhase s ph v
  | fullResetRelease mv b =>
    exact keeps_fullReset h he (.inr ⟨mv, b, rfl⟩) fun ph v _ => alarmLaw_enterPhase s ph v
  | settingsLoadEnd =>
    exact keeps_settingsLoadEnd h he fun _ => alarmLaw_completeStartUp _ <|
      alarmLaw_reads.frame (frame_giveDemand _) rfl <| alarmLaw_loadRaises _ (alarmLaw_judgeAlarm _)
  | faultRaise x => exact keeps_whenReleased h he fun _ => alarmLaw_takeRaise s x h
  | clearFaults p k => exact keeps_request alarmLaw_reads rfl h he fun _ => alarmLaw_judgeAlarm _
  | writeSetting p g i x v =>
    refine keeps_writeSetting alarmLaw_reads rfl h he fun _ => (keeps_writeItem s p _ _ _ _ ?_ ?_ ?_ ?_ ?_ ?_)
    · exact alarmLaw_reads.frame (frame_writeRegulation s _ _ _) rfl h
    · exact alarmLaw_writeSupervision s _ _ h
    · exact alarmLaw_writeAdmission s _ _ h
    · exact fun e => alarmLaw_reads.frame (frame_writeLoadDefault s p e _ _) rfl h
    · exact alarmLaw_writeSlotPeriod s _ h
    · exact alarmLaw_writeDevice s p _ _ _ h
  | _ => nomatch hi

/-! ### Bounds (R153, R163) -/

theorem boundLaw_reads : Reads BoundLaw [.notices, .tokens] := fun s t h hs => by
  have hn : t.ntu = s.ntu := h .notices (by simp)
  obtain ⟨tokens, accrual⟩ : t.tsv.tokens = s.tsv.tokens ∧ t.tsv.accrual = s.tsv.accrual :=
    h .tokens (by simp)
  unfold BoundLaw State.notices
  rw [hn, tokens, accrual]
  exact hs

theorem boundLaw_enterPhase (s : State) (ph : Phase) (v : Supply) : BoundLaw (s.enterPhase ph v) :=
  ⟨fun p => by cases p <;> exact Nat.zero_le _, Nat.le_refl _,
    fun h => (Bool.noConfusion h), fun h => absurd h (Nat.lt_irrefl 50)⟩

/-- A port's notices replaced within the bound. -/
theorem boundLaw_setNotices (s : State) (p : Port) (n : NoticePort) (h : BoundLaw s)
    (hn : n.queue.length ≤ 16) : BoundLaw (s.setNotices p n) := by
  obtain ⟨queues, tokens⟩ := h
  refine ⟨fun q => ?_, tokens⟩
  by_cases e : q = p
  · subst e; rwa [notices_setNotices_same]
  · rw [notices_setNotices_other s n e]; exact queues q

theorem deliver_length (n : NoticePort) (x : Notice) (h : n.queue.length ≤ 16) :
    (n.deliver x).queue.length ≤ 16 := by
  rcases deliver_queue n x with hq | ⟨hq, hl⟩
  · rwa [hq]
  · rw [hq, List.length_append]; exact hl

theorem control_length (n : NoticePort) (e h : Bool) (r m : NoticeSet) (hn : n.queue.length ≤ 16) :
    (n.control e h r m).queue.length ≤ 16 := by
  have dropped (n : NoticePort) (k : NoticeSet) : (n.dropSlots k).queue = n.queue := by
    rw [(dropSlots_eq n k).1]
  unfold NoticePort.control
  dsimp only
  split_ifs
  · exact (flush_queue _).2 (by rw [dropped]; exact hn)
  · exact (flush_queue _).2 (by dsimp only; rw [dropped]; exact hn)
  · rw [dropped]; exact hn
  · dsimp only; rw [dropped]; exact hn

theorem boundLaw_serveClose (s : State) (n : Nat) (h : BoundLaw s) : BoundLaw (s.serveClose n).1 := by
  obtain ⟨queues, tokens, accrual⟩ := h
  refine ⟨queues, Nat.le_trans (Nat.sub_le _ _) tokens, ?_⟩
  show (if s.tsv.tokens = 50 ∧ 0 < min n s.tsv.tokens then some s.timebase else s.tsv.accrual).isSome = true
    ↔ s.tsv.tokens - min n s.tsv.tokens < 50
  split
  · next full => exact ⟨fun _ => by omega, fun _ => rfl⟩
  · next full => rw [accrual]; omega

theorem boundLaw_gain (s : State) (h : BoundLaw s) :
    BoundLaw { s with
      tsv :=
        { s.tsv with
          tokens := min 50 (s.tsv.tokens + 1)
          accrual := if min 50 (s.tsv.tokens + 1) = 50 then none else some s.timebase } } := by
  refine ⟨h.1, Nat.min_le_left _ _, ?_⟩
  show (if min 50 (s.tsv.tokens + 1) = 50 then none else some s.timebase).isSome = true
    ↔ min 50 (s.tsv.tokens + 1) < 50
  split
  · next full => rw [full]; simp
  · next full => exact ⟨fun _ => by omega, fun _ => rfl⟩

theorem boundLaw_resetPort (s : State) (p : Port) (h : BoundLaw s) : BoundLaw (s.resetPort p) :=
  boundLaw_reads.frame (frame_setPort _ p _ rfl rfl) rfl <|
    boundLaw_setNotices (s.hunt p) p _ (boundLaw_reads.frame (frame_hunt s p) rfl h) (Nat.zero_le _)

/-- Settles O13: a queue grows only while it has room, and the accrual timer goes with the tokens. -/
theorem boundLawKept : Obligations.BoundLawKept := by
  refine kept_of_writers boundLaw_reads (fun i s t hi h he => ?_) rfl
  cases i with
  | fullResetAssert x => exact keeps_fullReset h he (.inl ⟨x, rfl⟩) fun ph v _ => boundLaw_enterPhase s ph v
  | fullResetRelease mv b =>
    exact keeps_fullReset h he (.inr ⟨mv, b, rfl⟩) fun ph v _ => boundLaw_enterPhase s ph v
  | gateClose p n =>
    refine keeps_request boundLaw_reads rfl h he fun _ => ?_
    split_ifs
    · exact h
    · exact h
    · exact boundLaw_serveClose s _ h
  | tokenGain =>
    refine keeps_whenRunning h he fun _ => ?_
    split
    · exact boundLaw_gain s h
    · exact h
  | lineBreak p =>
    refine keeps_whenRunning h he fun _ => ?_
    split
    · exact h
    · exact boundLaw_reads.frame (frame_setPort _ p _ rfl rfl) rfl (boundLaw_resetPort s p h)
  | portReset p => exact keeps_request boundLaw_reads rfl h he fun _ => boundLaw_resetPort s p h
  | noticeDelivery k x v =>
    refine keeps_whenReleased h he fun _ => ?_
    obtain ⟨queues, tokens⟩ := h
    exact ⟨fun q => by
      cases q with
      | g => exact deliver_length _ _ (queues .g)
      | s => exact deliver_length _ _ (queues .s)
      | h => exact deliver_length _ _ (queues .h), tokens⟩
  | setNoticeControl p a b r m =>
    refine keeps_request boundLaw_reads rfl h he fun _ => ?_
    split
    · exact boundLaw_setNotices s p _ h (control_length _ _ _ _ _ (h.1 p))
    · exact h
  | takeNotices p n =>
    refine keeps_request boundLaw_reads rfl h he fun _ => ?_
    dsimp only
    split
    · refine boundLaw_setNotices s p _ h ((flush_queue _).2 ?_)
      exact (List.length_drop ..).symm ▸ Nat.le_trans (Nat.sub_le _ _) (h.1 p)
    · exact h
  | _ => nomatch hi

end Sys2Proof.Machine
end

section
/-! PROOFS. The laws of the receivers, the store's writes, the firing unit and the timers. -/

namespace Sys2Proof.Machine

/-! ### Receivers (R155) -/

/-- A receiver in HUNT holds nothing. -/
theorem Receiver.Sound.hunt {r : Receiver} (h : r.Sound) (hm : r.mode = .hunt) : r.bytes = [] := by
  unfold Receiver.Sound at h
  rw [hm] at h
  exact h

/-- A receiver in LENGTH holds the start byte. -/
theorem Receiver.Sound.length {r : Receiver} (h : r.Sound) (hm : r.mode = .length) : r.bytes = [0xC3] := by
  unfold Receiver.Sound at h
  rw [hm] at h
  exact h

/-- A receiver in BODY holds the start byte, a LEN and fewer bytes than it counts. -/
theorem Receiver.Sound.body {r : Receiver} (h : r.Sound) (hm : r.mode = .body) :
    ∃ len rest, r.bytes = 0xC3 :: len :: rest ∧ 1 ≤ len.toNat ∧ len.toNat ≤ 48
      ∧ rest.length < len.toNat := by
  unfold Receiver.Sound at h
  rw [hm] at h
  split at h
  · contradiction
  · contradiction
  · next hb => obtain ⟨rfl, rest⟩ := h; exact ⟨_, _, hb, rest⟩
  · contradiction
  · exact h.elim

/-- A receiver in CHECK holds the start byte, a LEN and as many bytes as it counts, or one more. -/
theorem Receiver.Sound.check {r : Receiver} (h : r.Sound) (hm : r.mode = .check) :
    ∃ len rest, r.bytes = 0xC3 :: len :: rest ∧ 1 ≤ len.toNat ∧ len.toNat ≤ 48
      ∧ len.toNat ≤ rest.length ∧ rest.length ≤ len.toNat + 1 := by
  unfold Receiver.Sound at h
  rw [hm] at h
  split at h
  · contradiction
  · contradiction
  · contradiction
  · next hb => obtain ⟨rfl, rest⟩ := h; exact ⟨_, _, hb, rest⟩
  · exact h.elim

theorem receiverLaw_reads : Reads ReceiverLaw [.receivers] := fun s t h hs p => by
  have hr : t.receivers = s.receivers := h .receivers (by simp)
  have := congrFun hr p
  unfold State.receivers at this
  rw [this]
  exact hs p

theorem receiverLaw_setPort (s : State) (p : Port) (l : PortLink) (h : ReceiverLaw s) (hl : l.rx.Sound) :
    ReceiverLaw (s.setPort p l) := fun q => by
  by_cases e : q = p
  · subst e; rwa [port_setPort_same]
  · rw [port_setPort_other s l e]; exact h q

theorem receiverLaw_enterPhase (s : State) (ph : Phase) (v : Supply) : ReceiverLaw (s.enterPhase ph v) :=
  fun p => by cases p <;> exact (rfl : ([] : List Byte) = [])

theorem receiverLaw_hunt (s : State) (p : Port) (h : ReceiverLaw s) : ReceiverLaw (s.hunt p) :=
  receiverLaw_setPort s p _ h (rfl : ([] : List Byte) = [])

theorem receiverLaw_dropLate (s : State) (p : Port) (h : ReceiverLaw s) : ReceiverLaw (s.dropLate p) := by
  unfold State.dropLate
  split
  · exact receiverLaw_hunt _ p (receiverLaw_reads.frame (frame_linkFault s p _ _) rfl h)
  · exact h

theorem receiverLaw_resetPort (s : State) (p : Port) (h : ReceiverLaw s) : ReceiverLaw (s.resetPort p) :=
  receiverLaw_reads.frame (frame_setPort _ p _ rfl rfl) rfl <|
    receiverLaw_reads.frame (frame_dropPortKeeps _ p) rfl (receiverLaw_hunt s p h)

theorem receiverLaw_judgeFrame (s : State) (p : Port) (f : List Byte) (h : ReceiverLaw s) :
    ReceiverLaw (s.judgeFrame p f) := by
  have hunted := receiverLaw_hunt s p h
  unfold State.judgeFrame
  dsimp only
  split
  · split
    · exact receiverLaw_reads.frame (frame_goodFrame _ p _ _ _) rfl hunted
    · exact receiverLaw_reads.frame (frame_linkFault _ p _ _) rfl hunted
  · exact hunted

/-- A byte kept leaves a receiver sound when its new state allows what it then holds. -/
theorem receiverLaw_keepByte (s : State) (p : Port) (b : Byte) (m : RxMode) (h : ReceiverLaw s)
    (hb : Receiver.Sound { mode := m, bytes := (s.port p).rx.bytes ++ [b], last := s.timebase }) :
    ReceiverLaw (s.keepByte p b m) := receiverLaw_setPort s p _ h hb

/-- A byte received leaves every receiver sound (R155). -/
theorem receiverLaw_receive (s : State) (p : Port) (b : Byte) (h : ReceiverLaw s) :
    ReceiverLaw (s.receive p b) := by
  unfold State.receive
  dsimp only
  split
  · next hm =>
    split
    · next hb =>
      refine receiverLaw_keepByte s p b _ h ?_
      rw [(h p).hunt hm, hb]
      exact (rfl : ([0xC3] : List Byte) = [0xC3])
    · exact h
  · next hm =>
    split
    · exact receiverLaw_hunt _ p (receiverLaw_reads.frame (frame_linkFault s p _ _) rfl h)
    · next hb =>
      refine receiverLaw_keepByte s p b _ h ?_
      rw [(h p).length hm]
      have positive : b.toNat ≠ 0 := fun e => hb (.inl (BitVec.eq_of_toNat_eq e))
      exact ⟨rfl, by omega, by omega, by simp; omega⟩
  · next hm =>
    obtain ⟨len, rest, hbytes, hlow, hhigh, hrest⟩ := (h p).body hm
    refine receiverLaw_keepByte s p b _ h ?_
    rw [hbytes]
    simp only [List.length_cons, List.getD_cons_succ, List.getD_cons_zero]
    split
    · exact ⟨rfl, hlow, hhigh, by simp; omega, by simp; omega⟩
    · exact ⟨rfl, hlow, hhigh, by simp; omega⟩
  · next hm =>
    obtain ⟨len, rest, hbytes, hlow, hhigh, hrest, hmost⟩ := (h p).check hm
    split
    · exact receiverLaw_judgeFrame s p _ h
    · next hlen =>
      refine receiverLaw_keepByte s p b _ h ?_
      rw [hbytes] at hlen ⊢
      simp only [List.length_cons, List.getD_cons_succ, List.getD_cons_zero] at hlen
      exact ⟨rfl, hlow, hhigh, by simp; omega, by simp; omega⟩

/-- Settles O12: each byte that a receiver keeps takes it to the state that holds one byte more. -/
theorem receiverLawKept : Obligations.ReceiverLawKept := by
  refine kept_of_writers receiverLaw_reads (fun i s t hi h he => ?_) rfl
  cases i with
  | fullResetAssert x => exact keeps_fullReset h he (.inl ⟨x, rfl⟩) fun ph v _ => receiverLaw_enterPhase s ph v
  | fullResetRelease mv b =>
    exact keeps_fullReset h he (.inr ⟨mv, b, rfl⟩) fun ph v _ => receiverLaw_enterPhase s ph v
  | rxByte p b level =>
    have sampled : ReceiverLaw { s with setupEn := level } := h
    refine keeps_whenRunning sampled he fun _ => ?_
    split
    · exact sampled
    · exact receiverLaw_receive _ p b (receiverLaw_dropLate _ p sampled)
  | frameTimeout p => exact keeps_whenRunning h he fun _ => receiverLaw_dropLate s p h
  | lineBreak p =>
    refine keeps_whenRunning h he fun _ => ?_
    split
    · exact h
    · exact receiverLaw_reads.frame (frame_setPort _ p _ rfl rfl) rfl (receiverLaw_resetPort s p h)
  | portReset p => exact keeps_request receiverLaw_reads rfl h he fun _ => receiverLaw_resetPort s p h
  | _ => nomatch hi

/-! ### The store's writes (R146, R170) -/

theorem storeLaw_reads : Reads StoreLaw [.saves, .mark] := fun s t h hs => by
  obtain ⟨save, area⟩ : t.sst.save = s.sst.save ∧ t.sst.areaWrite = s.sst.areaWrite := h .saves (by simp)
  have mark : t.tsv.mark = s.tsv.mark := h .mark (by simp)
  unfold StoreLaw
  rw [save, area, mark]
  exact hs

theorem storeLaw_enterPhase (s : State) (ph : Phase) (v : Supply) : StoreLaw (s.enterPhase ph v) :=
  ⟨fun h => Bool.noConfusion h, fun h => WriteMark.noConfusion h⟩

/-- With a mark other than IN PROGRESS the law speaks of the writes alone. -/
theorem storeLaw_marked {s t : State} (hs : t.sst = s.sst) (hm : t.tsv.mark ≠ .inProgress) (h : StoreLaw s) :
    StoreLaw t := by
  refine ⟨?_, fun e => absurd e hm⟩
  rw [hs]
  exact h.1

theorem storeLaw_tripWith (s : State) (c : TripCause) (f : Nat) (h : StoreLaw s) :
    StoreLaw (s.tripWith c f) := by
  cases hl : s.tsv.latch with
  | true => rw [tripWith_set s c f hl]; exact storeLaw_reads.frame (frame_raise s _) rfl h
  | false =>
    refine storeLaw_marked ?_ ?_ h
    · rw [tripWith_frame]
    · rw [tripWith_clear s c f hl]; exact WriteMark.noConfusion

/-- An area write starts only with no save running (R146). -/
theorem storeLaw_startAreaWrite (s : State) (h : StoreLaw s) : StoreLaw s.startAreaWrite := by
  unfold State.startAreaWrite
  split
  · next due =>
    refine ⟨fun _ t d e => ?_, fun _ => rfl⟩
    replace e : s.sst.save = .running t d := e
    simp [State.areaWriteDue, e] at due
  · exact h

/-- A save runs only with no area write in progress (R170). -/
theorem storeLaw_runSave (s : State) (h : StoreLaw s) (hn : s.sst.areaWrite = none) :
    StoreLaw s.runSave := by
  refine ⟨fun e => ?_, h.2⟩
  replace e : s.sst.areaWrite.isSome = true := e
  rw [hn] at e
  exact Bool.noConfusion e

/-- A store without a running save meets the law with the mark as it stands. -/
theorem storeLaw_settled {s t : State} (hm : t.tsv.mark = s.tsv.mark)
    (ha : t.sst.areaWrite = s.sst.areaWrite) (hs : ∀ n d, t.sst.save ≠ .running n d) (h : StoreLaw s) :
    StoreLaw t := by
  refine ⟨fun _ => hs, ?_⟩
  rw [hm, ha]
  exact h.2

/-- Settles O11: an area write starts only in SAVE IDLE, a save runs only with no area write, and the mark is
IN PROGRESS from the start of the write to its end. -/
theorem storeLawKept : Obligations.StoreLawKept := by
  refine kept_of_writers storeLaw_reads (fun i s t hi h he => ?_) rfl
  cases i with
  | fullResetAssert x => exact keeps_fullReset h he (.inl ⟨x, rfl⟩) fun ph v _ => storeLaw_enterPhase s ph v
  | fullResetRelease mv b =>
    exact keeps_fullReset h he (.inr ⟨mv, b, rfl⟩) fun ph v _ => storeLaw_enterPhase s ph v
  | recordAtTurbine r => exact keeps_recordAtTurbine storeLaw_reads storeLaw_tripWith h he
  | shaftPulse => exact keeps_shaftPulse storeLaw_reads storeLaw_tripWith h he
  | trip p => exact keeps_request storeLaw_reads rfl h he fun _ => storeLaw_tripWith s _ _ h
  | tripReset p =>
    refine keeps_request storeLaw_reads rfl h he fun _ => ?_
    dsimp only
    split_ifs
    · exact h
    · exact h
    · refine storeLaw_reads.frame (frame_setAdvice _ _ _) rfl (storeLaw_reads.frame (frame_notice _ _ _ _) rfl ?_)
      exact storeLaw_marked (s := s) rfl WriteMark.noConfusion h
  | tripAreaWriteStart => exact keeps_whenRunning h he fun _ => storeLaw_startAreaWrite s h
  | saveSettings p =>
    refine keeps_request storeLaw_reads rfl h he fun _ => ?_
    dsimp only
    split
    · have started := storeLaw_startAreaWrite s h
      show StoreLaw (if _ then _ else _)
      split
      · exact storeLaw_settled (s := s.startAreaWrite) rfl rfl (fun _ _ => SaveState.noConfusion) started
      · next e => exact storeLaw_runSave _ started (by simpa using e)
    · exact h
  | tripAreaWriteEnd =>
    refine keeps_whenRunning h he fun _ => ?_
    split
    · refine storeLaw_startAreaWrite _ ⟨fun e => Bool.noConfusion e, fun e => ?_⟩
      replace e : (if s.tsv.mark = .inProgress then .clear else s.tsv.mark) = WriteMark.inProgress := e
      split at e
      · exact WriteMark.noConfusion e
      · contradiction
    · exact h
  | saveRunStart =>
    refine keeps_whenRunning h he fun _ => ?_
    split
    · next due => exact storeLaw_runSave s h (by simpa [State.saveRunDue] using (Bool.and_eq_true_iff.mp due).2)
    · exact h
  | saveEnd agrees =>
    refine keeps_whenRunning h he fun _ => ?_
    split
    · next n d _ =>
      refine storeLaw_startAreaWrite (s.saveEnded d agrees) ?_
      have ended : StoreLaw
          { s with sst := { s.sst with save := .idle, image := if agrees then d.stored else s.sst.image } } :=
        storeLaw_settled (s := s) rfl rfl (fun _ _ => SaveState.noConfusion) h
      unfold State.saveEnded
      dsimp only
      split
      · exact storeLaw_reads.frame (frame_notice _ _ _ _) rfl ended
      · exact storeLaw_reads.frame (frame_raise _ _) rfl (storeLaw_reads.frame (frame_notice _ _ _ _) rfl ended)
    · exact h
  | _ => nomatch hi

end Sys2Proof.Machine
end

section
/-! PROOFS. The laws of the firing unit, and of the timers of the Shed Controller and the Rota Player. -/

namespace Sys2Proof.Machine

/-! ### The firing unit (R39, R49) -/

/-- The firing state is the table's, and in FIRING OFF the current set and the schedule are empty. -/
def Firing.Sound (u : Firing) : Prop :=
  u.state = u.due ∧ (u.state = .off → u.current = none ∧ u.schedule = ⟨none, none, none⟩)

theorem firingLaw_iff (s : State) :
    FiringLaw s ↔ s.bfu.Sound ∧ (s.phase ≠ .running → s.bfu.reg = .stopped) := and_assoc.symm

theorem firingLaw_reads : Reads FiringLaw [.firing, .phase] := fun s t h hs => by
  have hu : t.bfu = s.bfu := h .firing (by simp)
  have hp : t.phase = s.phase := h .phase (by simp)
  rw [firingLaw_iff, hu, hp]
  exact (firingLaw_iff s).mp hs

/-- While running the law is the unit's own. -/
theorem firingLaw_running {s : State} (hp : s.phase = .running) (h : s.bfu.Sound) : FiringLaw s :=
  (firingLaw_iff s).mpr ⟨h, fun hn => absurd hp hn⟩

theorem firing_sound_settle (u : Firing) : u.settle.Sound := by
  obtain ⟨hstate, -, -, hbanks, hreg, hline, -, hoff⟩ := firing_settle u
  have due : u.settle.due = u.due := by unfold Firing.due; rw [hbanks, hreg, hline]
  exact ⟨hstate.trans due.symm, fun h => hoff (hstate.symm.trans h)⟩

/-- A unit in FIRING takes any set, schedule and outputs. -/
theorem firing_sound_firing {u v : Firing} (h : u.Sound) (hs : u.state = .firing) (hv : v.state = u.state)
    (hb : v.banks = u.banks) (hr : v.reg = u.reg) (hl : v.line = u.line) : v.Sound := by
  have due : v.due = u.due := by unfold Firing.due; rw [hb, hr, hl]
  refine ⟨by rw [due, hv]; exact h.1, fun ho => ?_⟩
  rw [hv, hs] at ho
  cases ho

theorem firing_latch (u : Firing) (c : HalfCycle) :
    (u.latch c).state = u.state ∧ (u.latch c).banks = u.banks ∧ (u.latch c).reg = u.reg
      ∧ (u.latch c).line = u.line := by
  unfold Firing.latch
  split
  · split <;> exact ⟨rfl, rfl, rfl, rfl⟩
  · exact ⟨rfl, rfl, rfl, rfl⟩

theorem firing_scheduleFrom (u : Firing) (t : Time) :
    (u.scheduleFrom t).state = u.state ∧ (u.scheduleFrom t).banks = u.banks
      ∧ (u.scheduleFrom t).reg = u.reg ∧ (u.scheduleFrom t).line = u.line := by
  unfold Firing.scheduleFrom
  split <;> exact ⟨rfl, rfl, rfl, rfl⟩

/-- A pulse is due only in FIRING: in FIRING OFF none is scheduled. -/
theorem firing_of_pulseIsDue {s : State} {b : Bank} (h : s.bfu.Sound) (hd : s.pulseIsDue b = true) :
    s.bfu.state = .firing := by
  cases hs : s.bfu.state with
  | firing => rfl
  | off =>
    have none : s.bfu.schedule.get b = none := by
      rw [(h.2 hs).2]
      unfold PerBank.get
      split <;> rfl
    simp [State.pulseIsDue, none] at hd

theorem firingLaw_enterPhase (s : State) (ph : Phase) (v : Supply) : FiringLaw (s.enterPhase ph v) :=
  (firingLaw_iff _).mpr ⟨⟨rfl, fun _ => ⟨rfl, rfl⟩⟩, fun _ => rfl⟩

/-- The ratings of the load leave a stopped unit off. -/
theorem firingLaw_takeLoad (s : State) (h : FiringLaw s) (hp : s.phase ≠ .running) :
    FiringLaw s.takeLoad := by
  obtain ⟨hu, hr⟩ := (firingLaw_iff s).mp h
  have stopped := hr hp
  have stays (u : Firing) (hu : u.reg = .stopped) : u.due = .off := by unfold Firing.due; simp [hu]
  have off : s.bfu.state = .off := hu.1.trans (stays _ stopped)
  refine (firingLaw_iff _).mpr ⟨⟨?_, hu.2⟩, hr⟩
  exact off.trans (stays s.takeLoad.bfu stopped).symm

theorem firingLaw_completeStartUp (s : State) (h : FiringLaw s) : FiringLaw s.completeStartUp := by
  have started : FiringLaw s.startService := by
    have firing : s.startService.bfu = s.bfu := frame_startService s .firing (by simp)
    have phase : s.startService.phase = .running := frame_startPresence _ .phase (by simp)
    exact firingLaw_running phase (firing ▸ ((firingLaw_iff s).mp h).1)
  rw [completeStartUp_eq]
  exact firingLaw_reads.frame (frame_startEntries _) rfl <|
    firingLaw_reads.frame (frame_readAuxiliaries _) rfl <|
    firingLaw_reads.frame (frame_startLineLoss _) rfl <|
    firingLaw_reads.frame (frame_settleRegulation _) rfl <|
    firingLaw_reads.frame (frame_startPermit _) rfl started

/-- Settles O9: a change of what the table of section 3.2 reads settles the unit, and set and schedule are
filled in FIRING alone. -/
theorem firingLawKept : Obligations.FiringLawKept := by
  refine kept_of_writers firingLaw_reads (fun i s t hi h he => ?_) rfl
  have sound : s.bfu.Sound := ((firingLaw_iff s).mp h).1
  cases i with
  | fullResetAssert x => exact keeps_fullReset h he (.inl ⟨x, rfl⟩) fun ph v _ => firingLaw_enterPhase s ph v
  | fullResetRelease mv b =>
    exact keeps_fullReset h he (.inr ⟨mv, b, rfl⟩) fun ph v _ => firingLaw_enterPhase s ph v
  | settingsLoadEnd =>
    refine keeps_settingsLoadEnd h he fun hp => firingLaw_completeStartUp _ ?_
    refine firingLaw_reads.frame (frame_giveDemand _) rfl (firingLaw_reads.frame (frame_loadRaises _) rfl ?_)
    exact firingLaw_takeLoad s h (by rw [hp]; exact Phase.noConfusion)
  | halfCycleStart c =>
    refine keeps_whenRunning h he fun hp => ?_
    split
    · next hs =>
      obtain ⟨l1, l2, l3, l4⟩ := firing_latch s.bfu c
      obtain ⟨m1, m2, m3, m4⟩ := firing_scheduleFrom (s.bfu.latch c) c.time
      exact firingLaw_running hp <|
        firing_sound_firing sound hs (m1.trans l1) (m2.trans l2) (m3.trans l3) (m4.trans l4)
    · exact h
  | gatePulseDue b =>
    refine keeps_whenRunning h he fun hp => ?_
    split
    · next due =>
      exact firingLaw_running hp <|
        firing_sound_firing sound (firing_of_pulseIsDue sound due) rfl rfl rfl rfl
    · exact h
  | gatePulseEnd b =>
    refine keeps_whenRunning h he fun hp => ?_
    split <;> [exact firingLaw_running hp sound; exact h]
  | recordAtFiring r => exact keeps_whenRunning h he fun hp => firingLaw_running hp sound
  | demandChange c =>
    refine keeps_whenRunning h he fun hp => ?_
    split
    · exact firingLaw_running hp (firing_sound_settle _)
    · exact firingLaw_running hp sound
  | regStateAtFiring c => exact keeps_whenRunning h he fun hp => firingLaw_running hp (firing_sound_settle _)
  | lineStateAtFiring l => exact keeps_whenRunning h he fun hp => firingLaw_running hp (firing_sound_settle _)
  | _ => nomatch hi

/-! ### Timers of the Shed Controller and the Rota Player (chapters 6 and 7) -/

/-- Hold timers and the confirm count belong to the shed state that owns them (section 6.1). -/
def Shed.Sound (c : Shed) : Prop :=
  (c.recovery.isSome = true ↔ c.state = .recoveryHold)
    ∧ (c.restart.isSome = true → c.restartPending = true ∧ c.regulating = true)
    ∧ ((c.state = .normal ∨ c.state = .recoveryHold) → c.count = 0)

/-- In ROTA IDLE there is no pending split and no slot timer, and a pending split is for the half without
the pointer (R118, R120). -/
def Rota.Sound (r : Rota) : Prop :=
  (r.playing = false → r.split = none ∧ r.second = none)
    ∧ ∀ x, r.split = some x → (x.half = .low ↔ 32 ≤ r.pointer.val)

theorem timerLaw_iff (s : State) : TimerLaw s ↔ s.shc.Sound ∧ s.rtp.Sound := by
  unfold TimerLaw Shed.Sound Rota.Sound
  simp only [and_assoc]

theorem timerLaw_reads : Reads TimerLaw [.shed, .rota] := fun s t h hs => by
  have hr : t.rtp = s.rtp := h .rota (by simp)
  have hc : { t.shc with stack := [] } = { s.shc with stack := [] } := h .shed (by simp)
  obtain ⟨shed, rota⟩ := (timerLaw_iff s).mp hs
  refine (timerLaw_iff t).mpr ⟨?_, hr ▸ rota⟩
  have : ({ t.shc with stack := [] } : Shed).Sound := by rw [hc]; exact shed
  exact this

/-- The parts of the Shed Controller that the law reads, after a change that leaves them. -/
theorem shed_of_frame {parts : List Part} {s t : State} (hf : Frame parts s t) (h : .shed ∉ parts) :
    t.shc.state = s.shc.state ∧ t.shc.count = s.shc.count ∧ t.shc.recovery = s.shc.recovery := by
  have hc : { t.shc with stack := [] } = { s.shc with stack := [] } := hf .shed h
  exact ⟨(congrArg Shed.state hc :), (congrArg Shed.count hc :), (congrArg Shed.recovery hc :)⟩

theorem timerLaw_enterPhase (s : State) (ph : Phase) (v : Supply) : TimerLaw (s.enterPhase ph v) :=
  (timerLaw_iff _).mpr
    ⟨⟨⟨fun h => Bool.noConfusion h, fun h => ShedState.noConfusion h⟩, fun h => Bool.noConfusion h,
      fun _ => rfl⟩, fun _ => ⟨rfl, rfl⟩, fun _ h => by cases h⟩

/-- A record of its own taken up by the Shed Controller (R108). -/
theorem timerLaw_changeShed {s : State} (c : Shed) (h : TimerLaw s) (hc : c.Sound) :
    TimerLaw (s.changeShed c) := by
  rw [changeShed_eq]
  exact (timerLaw_iff _).mpr ⟨hc, ((timerLaw_iff s).mp h).2⟩

theorem timerLaw_setShed {s : State} (c : Shed) (h : TimerLaw s) (hc : c.Sound) :
    TimerLaw { s with shc := c } := (timerLaw_iff _).mpr ⟨hc, ((timerLaw_iff s).mp h).2⟩

theorem timerLaw_setRota {s : State} (r : Rota) (h : TimerLaw s) (hr : r.Sound) :
    TimerLaw { s with rtp := r } := (timerLaw_iff _).mpr ⟨((timerLaw_iff s).mp h).1, hr⟩

/-- In a state other than RECOVERY HOLD the recovery hold timer is stopped. -/
theorem recovery_stopped {c : Shed} (h : c.Sound) (hs : c.state ≠ .recoveryHold) : c.recovery = none := by
  cases hr : c.recovery with
  | none => rfl
  | some t => exact absurd (h.1.mp (by rw [hr]; rfl)) hs

/-- A record outside NORMAL and RECOVERY HOLD, its recovery hold timer stopped. -/
theorem shed_sound_busy {b c : Shed} (h : b.Sound) (hs : c.state = .confirming ∨ c.state = .shedding)
    (hr : c.recovery = none) (ht : c.restart = b.restart) (hp : c.restartPending = b.restartPending)
    (hg : c.regulating = b.regulating) : c.Sound := by
  refine ⟨?_, ?_, ?_⟩
  · rw [hr]; rcases hs with hs | hs <;> simp [hs]
  · rw [ht, hp, hg]; exact h.2.1
  · rcases hs with hs | hs <;> simp [hs]

/-- A record in NORMAL with the count 0 and the recovery hold timer stopped. -/
theorem shed_sound_normal {b c : Shed} (h : b.Sound) (hs : c.state = .normal) (hn : c.count = 0)
    (hr : c.recovery = none) (ht : c.restart = b.restart) (hp : c.restartPending = b.restartPending)
    (hg : c.regulating = b.regulating) : c.Sound := by
  refine ⟨by simp [hr, hs], ?_, fun _ => hn⟩
  rw [ht, hp, hg]
  exact h.2.1

theorem timerLaw_shedFast (s : State) (h : TimerLaw s) : TimerLaw s.shedFast := by
  have one := timerLaw_reads.frame (frame_shedOne s) rfl h
  exact timerLaw_changeShed _ one
    (shed_sound_busy ((timerLaw_iff _).mp one).1 (.inr rfl) rfl rfl rfl rfl)

theorem timerLaw_countShort (s : State) (h : TimerLaw s)
    (hs : s.shc.state = .confirming ∨ s.shc.state = .shedding) : TimerLaw s.countShort := by
  have awake (u : State) (hu : u.shc.state = s.shc.state) : u.shc.state ≠ .recoveryHold := by
    rw [hu]; rcases hs with hs | hs <;> rw [hs] <;> exact ShedState.noConfusion
  unfold State.countShort
  split
  · have one := timerLaw_reads.frame (frame_shedOne s) rfl h
    have sound := ((timerLaw_iff _).mp one).1
    have stopped := recovery_stopped sound (awake _ (shed_of_frame (frame_shedOne s) (by simp)).1)
    exact timerLaw_changeShed _ one (shed_sound_busy sound (.inr rfl) stopped rfl rfl rfl)
  · have sound := ((timerLaw_iff _).mp h).1
    exact timerLaw_setShed _ h
      (shed_sound_busy sound hs (recovery_stopped (c := s.shc) sound (awake s rfl)) rfl rfl rfl)

theorem timerLaw_shedShort (s : State) (h : TimerLaw s) : TimerLaw s.shedShort := by
  have sound := ((timerLaw_iff _).mp h).1
  unfold State.shedShort
  split
  · next hs =>
    have stopped := recovery_stopped sound (by rw [hs]; exact ShedState.noConfusion)
    exact timerLaw_changeShed _ h (shed_sound_busy sound (.inl rfl) stopped rfl rfl rfl)
  · next hs => exact timerLaw_countShort s h (.inl hs)
  · next hs => exact timerLaw_countShort s h (.inr hs)
  · exact timerLaw_changeShed _ h (shed_sound_busy sound (.inr rfl) rfl rfl rfl rfl)

theorem timerLaw_shedNeither (s : State) (h : TimerLaw s) : TimerLaw s.shedNeither := by
  have sound := ((timerLaw_iff _).mp h).1
  unfold State.shedNeither
  split
  · next hs =>
    have stopped := recovery_stopped sound (by rw [hs]; exact ShedState.noConfusion)
    exact timerLaw_changeShed _ h (shed_sound_normal sound rfl rfl stopped rfl rfl rfl)
  · exact timerLaw_changeShed _ h ⟨⟨fun _ => rfl, fun _ => rfl⟩, sound.2.1, fun _ => rfl⟩
  · exact h
  · exact h

theorem timerLaw_endRecovery (s : State) (h : TimerLaw s) : TimerLaw s.endRecovery := by
  unfold State.endRecovery
  split
  · have back := timerLaw_reads.frame (Frame.foldl frame_recoverEntry s.shc.stack.reverse s) rfl h
    exact timerLaw_changeShed _ back
      (shed_sound_normal ((timerLaw_iff _).mp back).1 rfl rfl rfl rfl rfl rfl)
  · exact h

theorem timerLaw_endRestart (s : State) (h : TimerLaw s) : TimerLaw s.endRestart := by
  have sound := ((timerLaw_iff _).mp h).1
  unfold State.endRestart
  split
  · refine timerLaw_reads.frame (frame_notice _ _ _ _) rfl (timerLaw_reads.frame (frame_restartEntries _) rfl ?_)
    exact timerLaw_setShed _ h ⟨sound.1, fun hr => Bool.noConfusion hr, sound.2.2⟩
  · exact h

theorem timerLaw_shedLeavesRegulating (s : State) (h : TimerLaw s) : TimerLaw s.shedLeavesRegulating := by
  have sound := ((timerLaw_iff _).mp h).1
  have idle (hr : (none : Option Time).isSome = true) : s.shc.restartPending = true ∧ false = true :=
    Bool.noConfusion hr
  unfold State.shedLeavesRegulating
  dsimp only
  split
  · next hs =>
    have stopped := recovery_stopped sound (by rw [hs]; exact ShedState.noConfusion)
    exact timerLaw_changeShed _ h ⟨by simp [stopped], idle, fun _ => rfl⟩
  · next hs =>
    exact timerLaw_changeShed _ h ⟨sound.1, idle, fun _ => rfl⟩
  · exact timerLaw_changeShed _ h ⟨sound.1, idle, sound.2.2⟩
  · exact timerLaw_changeShed _ h ⟨sound.1, idle, sound.2.2⟩

/-- REGULATING made known starts the restart hold only when restart is pending (R106). -/
theorem shed_sound_regulating (c : Shed) (now : Time) (h : c.Sound) :
    Shed.Sound { c with
      regulating := true, restart := if c.restartPending then some now else c.restart } := by
  refine ⟨h.1, fun hr => ⟨?_, rfl⟩, h.2.2⟩
  by_contra hp
  rw [show ({ c with
      regulating := true, restart := if c.restartPending then some now else c.restart } : Shed).restart
      = c.restart from if_neg hp] at hr
  exact hp (h.2.1 hr).1

/-- The line-loss timer's expiry (R104 to R106). -/
theorem shed_sound_lost (c : Shed) (now : Time) (h : c.Sound) :
    Shed.Sound { c with
      state := .normal, count := 0, recovery := none, stack := [], restartPending := true, lineLoss := none,
      restart := if c.regulating && c.restart.isNone then some now else c.restart } := by
  refine ⟨by simp, fun hr => ⟨rfl, ?_⟩, fun _ => rfl⟩
  by_contra hg
  replace hg : c.regulating = false := Bool.eq_false_iff.mpr hg
  simp only [hg, Bool.false_and, Bool.false_eq_true, if_false] at hr
  rw [(h.2.1 hr).2] at hg
  cases hg

/-- The end of a slot while playing leaves the split for the half without the pointer (R114, R115). -/
theorem timerLaw_endSlot (s : State) (start : Time) (h : TimerLaw s) (hp : s.rtp.playing = true) :
    TimerLaw (s.endSlot start) := by
  obtain ⟨-, rota⟩ := (timerLaw_iff _).mp h
  have playing {p : Prop} (hn : s.rtp.playing = false) : p := by rw [hp] at hn; cases hn
  unfold State.endSlot
  dsimp only
  split
  · refine timerLaw_reads.frame (frame_handSlot _) rfl (timerLaw_reads.frame (frame_notice _ _ _ _) rfl ?_)
    exact timerLaw_setRota _ h ⟨playing, fun _ hx => by cases hx⟩
  · next within =>
    refine timerLaw_reads.frame (frame_handSlot _) rfl ?_
    refine timerLaw_setRota _ h ⟨playing, fun x hx => (rota.2 x hx).trans ?_⟩
    have := s.rtp.pointer.isLt
    show _ ↔ 32 ≤ (s.rtp.pointer.val + 1) % 64
    omega

theorem playing_of_slotDue {s : State} (h : s.slotDue = true) : s.rtp.playing = true :=
  (Bool.and_eq_true_iff.mp h).1

theorem timerLaw_writeSlotPeriod (s : State) (v : Int) (h : TimerLaw s) :
    TimerLaw (s.writeSlotPeriod v).1 := by
  have stored : TimerLaw { s with settings := { s.settings with slotPeriod := fit 1 240 v } } := h
  unfold State.writeSlotPeriod
  dsimp only
  split
  · next due => exact timerLaw_endSlot _ _ stored (playing_of_slotDue due)
  · exact stored

theorem timerLaw_afterAdmissionWrite (s : State) (i : Nat) (h : TimerLaw s) :
    TimerLaw (s.afterAdmissionWrite i) := by
  unfold State.afterAdmissionWrite
  split
  · exact timerLaw_reads.frame (frame_expireSlot _ 3) rfl <| timerLaw_reads.frame (frame_expireSlot _ 2) rfl <|
      timerLaw_reads.frame (frame_expireSlot _ 1) rfl <| timerLaw_reads.frame (frame_expireSlot _ 0) rfl h
  · exact timerLaw_endRecovery s h
  · exact timerLaw_endRestart s h
  · exact timerLaw_reads.frame (frame_expireSawWait s) rfl h
  · exact timerLaw_reads.frame (frame_endDwell s) rfl h
  · exact timerLaw_reads.frame (frame_endDeadTime s) rfl h
  · exact h

/-- ROTA IDLE entered (R120). -/
def State.rotaIdle (s : State) : State :=
  { s with rtp := { s.rtp with playing := false, second := none, split := none } }

/-- Settles O7: each change of a shed state sets the timer and the count that go with it, and the pointer
stays in its half until the crossing that takes the split. -/
theorem timerLawKept : Obligations.TimerLawKept := by
  refine kept_of_writers timerLaw_reads (fun i s t hi h he => ?_) rfl
  obtain ⟨shed, rota⟩ := (timerLaw_iff s).mp h
  cases i with
  | fullResetAssert x => exact keeps_fullReset h he (.inl ⟨x, rfl⟩) fun ph v _ => timerLaw_enterPhase s ph v
  | fullResetRelease mv b =>
    exact keeps_fullReset h he (.inr ⟨mv, b, rfl⟩) fun ph v _ => timerLaw_enterPhase s ph v
  | settingsLoadEnd =>
    refine keeps_settingsLoadEnd h he fun _ => ?_
    have loaded : TimerLaw s.takeLoad := (timerLaw_iff _).mpr ⟨shed, rota⟩
    have given := timerLaw_reads.frame (frame_giveDemand _) rfl <|
      timerLaw_reads.frame (frame_loadRaises _) rfl loaded
    have settled := timerLaw_reads.frame (frame_settleRegulation _) rfl <|
      timerLaw_reads.frame (frame_startPermit _) rfl <| timerLaw_reads.frame (frame_startService _) rfl given
    rw [completeStartUp_eq]
    refine timerLaw_reads.frame (frame_startEntries _) rfl (timerLaw_reads.frame (frame_readAuxiliaries _) rfl ?_)
    exact timerLaw_setShed _ settled ((timerLaw_iff _).mp settled).1
  | recordAtShed r =>
    refine keeps_whenRunning h he fun _ => ?_
    split_ifs
    · exact timerLaw_shedFast s h
    · exact timerLaw_shedShort s h
    · exact timerLaw_shedNeither s h
  | recoveryHoldExpiry => exact keeps_whenRunning h he fun _ => timerLaw_endRecovery s h
  | restartHoldExpiry => exact keeps_whenRunning h he fun _ => timerLaw_endRestart s h
  | regStateAtShed c =>
    refine keeps_whenRunning h he fun _ => ?_
    split
    · split
      · exact h
      · exact timerLaw_setShed _ h (shed_sound_regulating s.shc _ shed)
    · split
      · exact timerLaw_shedLeavesRegulating s h
      · exact h
  | lineStateAtShed l => exact keeps_whenRunning h he fun _ => timerLaw_setShed _ h shed
  | lineLossTimerExpiry =>
    refine keeps_whenRunning h he fun _ => ?_
    split
    · exact timerLaw_reads.frame (frame_notice _ _ _ _) rfl <| timerLaw_reads.frame (frame_post _ _) rfl <|
        timerLaw_setShed _ h (shed_sound_lost s.shc _ shed)
    · exact h
  | rotaWrite p g first sets =>
    refine keeps_request timerLaw_reads rfl h he fun _ => ?_
    dsimp only
    split
    · exact h
    · split
      · exact timerLaw_setRota _ h rota
      · exact h
  | rotaStart p g tap =>
    refine keeps_request timerLaw_reads rfl h he fun _ => ?_
    dsimp only
    split
    · refine timerLaw_reads.frame (frame_handSlot _) rfl ?_
      exact timerLaw_setRota _ h ⟨fun hn => Bool.noConfusion hn, fun _ hx => by cases hx⟩
    · exact h
  | rotaSplit p g tap =>
    refine keeps_request timerLaw_reads rfl h he fun _ => ?_
    dsimp only
    split
    · split_ifs with idle close
      · exact h
      · exact h
      · refine timerLaw_setRota _ h ⟨fun hn => ?_, fun x hx => ?_⟩
        · exact absurd hn (by simpa using idle)
        · cases hx
          show s.rtp.otherHalf = .low ↔ 32 ≤ s.rtp.pointer.val
          unfold Rota.otherHalf
          split <;> simp <;> omega
    · exact h
  | slotTimerSecond =>
    refine keeps_whenRunning h he fun _ => ?_
    split
    · next due =>
      have playing : s.rtp.playing = true := by
        simp only [State.secondDue, Bool.and_eq_true] at due
        exact due.1.1
      refine timerLaw_setRota _ h ⟨fun hn => ?_, rota.2⟩
      rw [show s.rtp.playing = false from hn] at playing
      cases playing
    · exact h
  | slotTimerExpiry =>
    refine keeps_whenRunning h he fun _ => ?_
    split
    · next due => exact timerLaw_endSlot s _ h (playing_of_slotDue due)
    · exact h
  | rotaStop p =>
    refine keeps_request timerLaw_reads rfl h he fun _ => ?_
    dsimp only [State.done]
    split
    · have idle : TimerLaw s.flushSlots.rotaIdle :=
        timerLaw_setRota _ (timerLaw_reads.frame (frame_flushSlots s) rfl h)
          ⟨fun _ => ⟨rfl, rfl⟩, fun _ hx => by cases hx⟩
      dsimp only
      exact timerLaw_reads.frame (frame_rotaStopEntries s.flushSlots.rotaIdle) rfl idle
    · exact h
  | writeSetting p g i x v =>
    refine keeps_writeSetting timerLaw_reads rfl h he fun _ => (keeps_writeItem s p _ _ _ _ ?_ ?_ ?_ ?_ ?_ ?_)
    · exact timerLaw_reads.frame (frame_writeRegulation s _ _ _) rfl h
    · exact timerLaw_reads.frame (frame_writeSupervision s _ _) rfl h
    · rw [writeAdmission_state]; exact timerLaw_afterAdmissionWrite _ _ h
    · exact fun e => timerLaw_reads.frame (frame_writeLoadDefault s p e _ _) rfl h
    · exact timerLaw_writeSlotPeriod s _ h
    · exact timerLaw_reads.frame (frame_writeDevice s p _ _ _) rfl h
  | _ => nomatch hi

end Sys2Proof.Machine
end

section
/-! PROOFS. The law of the Ballast Regulator: what its operations keep of its record, and the regulation
state brought after each to what enable and line give. -/

namespace Sys2Proof.Machine

/-! ### What the regulator's operations keep -/

/-- A property of the regulator's record that each of its acts keeps. -/
structure Ballast.Closed (P : Ballast → Prop) : Prop where
  state : ∀ b r, P b → P { b with state := r }
  line : ∀ b l, P b → P { b with line := l }
  enabled : ∀ b, P b → P { b with transferEnable := true }
  left : ∀ b, P b → P b.leftRegulating
  transfer : ∀ (s : State) how, P s.brg → P (s.transfer how).brg
  updated : ∀ b f now, P b → P (b.updated f now)
  start : ∀ s : State, P s.brg → P s.startDemand.brg

namespace Ballast.Closed

variable {P : Ballast → Prop}

theorem settle (hc : Ballast.Closed P) (s : State) (h : P s.brg) : P s.settleRegulation.brg := by
  unfold State.settleRegulation
  dsimp only
  split_ifs
  · exact h
  · exact hc.transfer _ 2 (hc.state _ _ (hc.left _ h))
  · exact hc.state _ _ (hc.transfer _ 2 (hc.state _ _ (hc.left _ h)))
  · exact hc.state _ _ (hc.left _ h)
  · exact hc.state _ _ h

theorem update (hc : Ballast.Closed P) (s : State) (f : Nat) (h : P s.brg) : P (s.update f).brg := by
  rw [update_brg]
  exact hc.updated _ _ _ h

theorem dueTransfer (hc : Ballast.Closed P) (s : State) (h : P s.brg) : P s.dueTransfer.brg := by
  unfold State.dueTransfer
  split
  · exact hc.settle _ (hc.transfer s 1 h)
  · exact h

theorem takeUpdate (hc : Ballast.Closed P) (s : State) (f : Nat) (h : P s.brg) :
    P (s.takeUpdate f).brg := by
  rw [takeUpdate_eq]
  split
  · exact hc.update _ f (hc.dueTransfer s h)
  · exact hc.dueTransfer s h

theorem knowLine (hc : Ballast.Closed P) (s : State) (l : LineState) (h : P s.brg) : P (s.knowLine l).brg :=
  hc.settle _ (hc.line _ l h)

theorem periodTaken (hc : Ballast.Closed P) (s : State) (v : ValidPeriod) (h : P s.brg) :
    P (s.periodTaken v).brg := by
  unfold State.periodTaken
  split
  · split
    · exact hc.takeUpdate _ _ (hc.knowLine s _ h)
    · exact hc.knowLine s _ h
  · exact hc.knowLine s _ h

theorem lineState (hc : Ballast.Closed P) (s : State) (l : LineState) (h : P s.brg) :
    P (if l = .absent then (s.knowLine l).startDemand else s.knowLine l).brg := by
  split
  · exact hc.start _ (hc.knowLine s l h)
  · exact hc.knowLine s l h

end Ballast.Closed

/-! ### Bounds of the record (R29 to R35) -/

/-- Wd is the demand in watts; the error, the saturation count and the ring are within their bounds. -/
def Ballast.Bounded (b : Ballast) : Prop :=
  b.wd = wattsOf b.d (rtotOf b.active.banks) ∧ b.lastError.natAbs ≤ 5000 ∧ b.satCount ≤ 50
    ∧ b.ring.length ≤ 16

theorem ballast_bounded_transfer (s : State) (how : Nat) (h : s.brg.Bounded) :
    (s.transfer how).brg.Bounded := by
  obtain ⟨watts, error, sat, ring⟩ := h
  rw [transfer_brg]
  refine ⟨?_, error, sat, ?_⟩
  · dsimp only
    split
    · rfl
    · next same => rw [not_not.mp same]; exact watts
  · dsimp only
    split
    · exact Nat.zero_le _
    · exact ring

theorem ballast_bounded_closed : Ballast.Closed Ballast.Bounded where
  state _ _ h := h
  line _ _ h := h
  enabled _ h := h
  left _ h := ⟨h.1, h.2.1, Nat.zero_le _, Nat.zero_le _⟩
  transfer := ballast_bounded_transfer
  updated b f now _ :=
    ⟨updated_wd b f now, errorOf_range _ _, satCountAfter_le _ _, pushFloor_length _ _⟩
  start s h := by rw [startDemand_brg]; exact ⟨rfl, h.2⟩

/-! ### The regulation state (R24, R25) -/

/-- A transfer waits only in REGULATING (R24). -/
def Ballast.Waits (b : Ballast) : Prop := b.transferEnable = true → b.state = .regulating

/-- The state is the one enable and line give, and a transfer waits only in REGULATING. -/
def Ballast.Settled (b : Ballast) : Prop := b.state = regStateFor b.active.enable b.line ∧ b.Waits

theorem transfer_waits_not (s : State) (how : Nat) : (s.transfer how).brg.transferEnable = false := by
  rw [transfer_brg]

/-- Settling leaves no transfer waiting outside REGULATING. -/
theorem settle_waits (s : State) (h : s.brg.Waits) : s.settleRegulation.brg.Waits := by
  have none {b : Ballast} (hb : b.transferEnable = false) : b.Waits := fun ht => by
    rw [hb] at ht; cases ht
  unfold State.settleRegulation
  dsimp only
  split_ifs with same regulating waits next
  · exact h
  · exact none (transfer_waits_not _ 2)
  · exact none (transfer_waits_not _ 2)
  · exact none (Bool.eq_false_iff.mpr waits)
  · exact none (Bool.eq_false_iff.mpr fun ht => regulating (h ht))

theorem settled_settle (s : State) (h : s.brg.Waits) : s.settleRegulation.brg.Settled :=
  ⟨settle_state s, settle_waits s h⟩

theorem settled_dueTransfer (s : State) (h : s.brg.Settled) : s.dueTransfer.brg.Settled := by
  unfold State.dueTransfer
  split
  · refine settled_settle _ fun ht => ?_
    rw [transfer_waits_not] at ht
    cases ht
  · exact h

theorem settled_takeUpdate (s : State) (f : Nat) (h : s.brg.Settled) : (s.takeUpdate f).brg.Settled := by
  rw [takeUpdate_eq]
  split
  · rw [update_brg]; exact settled_dueTransfer s h
  · exact settled_dueTransfer s h

theorem settled_knowLine (s : State) (l : LineState) (h : s.brg.Waits) : (s.knowLine l).brg.Settled :=
  settled_settle _ h

theorem settled_periodTaken (s : State) (v : ValidPeriod) (h : s.brg.Waits) :
    (s.periodTaken v).brg.Settled := by
  unfold State.periodTaken
  split
  · split
    · exact settled_takeUpdate _ _ (settled_knowLine s _ h)
    · exact settled_knowLine s _ h
  · exact settled_knowLine s _ h

theorem settled_startDemand (s : State) (h : s.brg.Settled) : s.startDemand.brg.Settled := by
  rw [startDemand_brg]
  exact h

/-! ### The law (R20, R24, R25) -/

theorem regulatorLaw_iff (s : State) :
    RegulatorLaw s ↔
      (s.brg.state = if s.phase = .running then regStateFor s.brg.active.enable s.brg.line else .stopped)
        ∧ s.brg.Waits ∧ s.brg.Bounded := Iff.rfl

theorem regulatorLaw_running {s : State} (hp : s.phase = .running) (hs : s.brg.Settled)
    (hb : s.brg.Bounded) : RegulatorLaw s := by
  rw [regulatorLaw_iff, if_pos hp]
  exact ⟨hs.1, hs.2, hb⟩

theorem regulatorLaw_settled {s : State} (hp : s.phase = .running) (h : RegulatorLaw s) :
    s.brg.Settled := by
  rw [regulatorLaw_iff, if_pos hp] at h
  exact ⟨h.1, h.2.1⟩

theorem regulatorLaw_reads : Reads RegulatorLaw [.regulator, .phase] := fun s t h hs => by
  have hb : t.brg = s.brg := h .regulator (by simp)
  have hp : t.phase = s.phase := h .phase (by simp)
  rw [regulatorLaw_iff, hb, hp]
  exact (regulatorLaw_iff s).mp hs

theorem regulatorLaw_enterPhase (s : State) (ph : Phase) (v : Supply) (hp : ph ≠ .running) :
    RegulatorLaw (s.enterPhase ph v) := by
  have watts : (0 : Nat) = wattsOf 0 (rtotOf RegParams.factory.banks) := by simp [wattsOf]
  refine (regulatorLaw_iff _).mpr ⟨(if_neg hp).symm, fun h => Bool.noConfusion h, ?_⟩
  exact ⟨watts, Nat.zero_le _, Nat.zero_le _, Nat.zero_le _⟩

/-- The regulator at the completion of start-up: brought to its state while running (R25). -/
theorem regulatorLaw_completeStartUp (s : State) (hw : s.brg.Waits) (hb : s.brg.Bounded) :
    RegulatorLaw s.completeStartUp := by
  have brg : s.startService.startPermit.brg = s.brg := frame_startService s .regulator (by simp)
  have phase : s.startService.startPermit.settleRegulation.phase = .running :=
    (frame_settleRegulation s.startService.startPermit .phase (by simp)).trans
      (frame_startPresence _ .phase (by simp))
  rw [completeStartUp_eq]
  refine regulatorLaw_reads.frame (frame_startEntries _) rfl <|
    regulatorLaw_reads.frame (frame_readAuxiliaries _) rfl <|
    regulatorLaw_reads.frame (frame_startLineLoss _) rfl <| regulatorLaw_running phase ?_ ?_
  · exact settled_settle _ (brg ▸ hw)
  · exact ballast_bounded_closed.settle _ (brg ▸ hb)

/-- Settles O8: every change of enable or line settles the regulation state, and every act keeps the record
within its bounds. -/
theorem regulatorLawKept : Obligations.RegulatorLawKept := by
  refine kept_of_writers regulatorLaw_reads (fun i s t hi h he => ?_) rfl
  obtain ⟨-, waits, bounded⟩ := (regulatorLaw_iff s).mp h
  cases i with
  | fullResetAssert x => exact keeps_fullReset h he (.inl ⟨x, rfl⟩) (regulatorLaw_enterPhase s)
  | fullResetRelease mv b => exact keeps_fullReset h he (.inr ⟨mv, b, rfl⟩) (regulatorLaw_enterPhase s)
  | settingsLoadEnd =>
    refine keeps_settingsLoadEnd h he fun _ => ?_
    have brg : s.takeLoad.loadRaises.giveDemand.brg = s.takeLoad.brg :=
      frame_loadRaises s.takeLoad .regulator (by simp)
    refine regulatorLaw_completeStartUp _ ?_ ?_
    · rw [brg]; exact waits
    · rw [brg]; exact ⟨rfl, bounded.2⟩
  | regulationUpdate v =>
    rw [exec_regulationUpdate] at he
    refine keeps_whenRunning h he fun hp => regulatorLaw_running ?_ (settled_periodTaken s v waits)
      (ballast_bounded_closed.periodTaken s v bounded)
    exact (frame_periodTaken s v .phase (by simp)).trans hp
  | applyRegulation p =>
    refine keeps_request regulatorLaw_reads rfl h he fun hp => ?_
    dsimp only
    split
    · next regulating =>
      exact regulatorLaw_running hp ⟨(regulatorLaw_settled hp h).1, fun _ => regulating⟩ bounded
    · refine regulatorLaw_running ?_ ?_ (ballast_bounded_closed.settle _ (ballast_bounded_transfer s 0 bounded))
      · exact ((frame_transfer s 0).trans (frame_settleRegulation _) .phase (by simp)).trans hp
      · exact settled_settle _ fun ht => by rw [transfer_waits_not] at ht; cases ht
  | lineStateAtRegulator l =>
    rw [exec_lineStateAtRegulator] at he
    refine keeps_whenRunning h he fun hp => ?_
    have known := settled_knowLine s l waits
    have phase : (s.knowLine l).phase = .running := (frame_knowLine s l .phase (by simp)).trans hp
    split
    · refine regulatorLaw_running ?_ (settled_startDemand _ known) ?_
      · exact (frame_startDemand _ .phase (by simp)).trans phase
      · exact ballast_bounded_closed.start _ (ballast_bounded_closed.knowLine s l bounded)
    · exact regulatorLaw_running phase known (ballast_bounded_closed.knowLine s l bounded)
  | writeSetting p g i x v =>
    refine keeps_writeSetting regulatorLaw_reads rfl h he fun _ => (keeps_writeItem s p _ _ _ _ ?_ ?_ ?_ ?_ ?_ ?_)
    · unfold State.writeRegulation
      split <;> exact h
    · exact regulatorLaw_reads.frame (frame_writeSupervision s _ _) rfl h
    · exact regulatorLaw_reads.frame (frame_writeAdmission s _ _) rfl h
    · exact fun e => regulatorLaw_reads.frame (frame_writeLoadDefault s p e _ _) rfl h
    · exact regulatorLaw_reads.frame (frame_writeSlotPeriod s _) rfl h
    · exact regulatorLaw_reads.frame (frame_writeDevice s p _ _ _) rfl h
  | _ => nomatch hi

end Sys2Proof.Machine
end

section
/-! PROOFS. The law of the settings: every setting within its range, wherever it stands. -/

namespace Sys2Proof.Machine

/-! ### Values as written (R168) -/

theorem fit_range (lo hi : Nat) (v : Int) (h : lo ≤ hi) : lo ≤ fit lo hi v ∧ fit lo hi v ≤ hi := by
  unfold fit clampInt
  omega

theorem fitShaftLimit_range (v : Int) :
    fitShaftLimit v = 0 ∨ 10 ≤ fitShaftLimit v ∧ fitShaftLimit v ≤ 65535 := by
  unfold fitShaftLimit
  split
  · exact .inl rfl
  · exact .inr (fit_range 10 65535 v (by omega))

/-- A regulation item written leaves the copy within its ranges (R21). -/
theorem regParams_write_inRange {r x : RegParams} {i : Nat} {b : Bank} {v : Int} {result : Result}
    (h : r.InRange) (hw : r.write i b v = some (x, result)) : x.InRange := by
  have fset := fit_range 45000 55000 v (by omega)
  have gain := fit_range 0 4095 v (by omega)
  have demand := fit_range 0 1000 v (by omega)
  have rating := fit_range 0 32000 v (by omega)
  obtain ⟨h1, h2, h3, h4, h5, h6, h7, h8⟩ := h
  unfold RegParams.write at hw
  split at hw
  · cases hw; exact ⟨fset.1, fset.2, h3, h4, h5, h6, h7, h8⟩
  · cases hw; exact ⟨h1, h2, gain.2, h4, h5, h6, h7, h8⟩
  · cases hw; exact ⟨h1, h2, h3, gain.2, h5, h6, h7, h8⟩
  · cases hw; exact ⟨h1, h2, h3, h4, demand.2, h6, h7, h8⟩
  · obtain ⟨y, -, hy⟩ := Option.map_eq_some_iff.mp hw
    cases hy; exact ⟨h1, h2, h3, h4, h5, h6, h7, h8⟩
  · cases hw
    match b with
    | 0 => exact ⟨h1, h2, h3, h4, h5, rating.2, h7, h8⟩
    | 1 => exact ⟨h1, h2, h3, h4, h5, h6, rating.2, h8⟩
    | 2 => exact ⟨h1, h2, h3, h4, h5, h6, h7, rating.2⟩
  · obtain ⟨y, -, hy⟩ := Option.map_eq_some_iff.mp hw
    cases hy
    match b with
    | 0 => exact ⟨h1, h2, h3, h4, h5, h6, h7, h8⟩
    | 1 => exact ⟨h1, h2, h3, h4, h5, h6, h7, h8⟩
    | 2 => exact ⟨h1, h2, h3, h4, h5, h6, h7, h8⟩

/-- A supervision item written leaves the group within its ranges unless it turns the band over (R154). -/
theorem supervision_write_inRange {u : SupervisionSettings} (i : Nat) (v : Int) (h : u.InRange)
    (hb : ¬ (u.write i v).1.adviceHigh < (u.write i v).1.adviceLow) : (u.write i v).1.InRange := by
  have overspeed := fit_range 52000 62000 v (by omega)
  have margin := fit_range 500 5000 v (by omega)
  have k100 := fit_range 0 24000 v (by omega)
  have slip := fit_range 5 200 v (by omega)
  have advice := fit_range 0 1000 v (by omega)
  obtain ⟨h1, h2, h3, h4, h5, h6, h7, h8, h9, h10⟩ := h
  revert hb
  unfold SupervisionSettings.write
  split <;> intro hb
  · exact ⟨overspeed.1, overspeed.2, h3, h4, h5, h6, h7, h8, h9, h10⟩
  · exact ⟨h1, h2, margin.1, margin.2, h5, h6, h7, h8, h9, h10⟩
  · exact ⟨h1, h2, h3, h4, fitShaftLimit_range v, h6, h7, h8, h9, h10⟩
  · exact ⟨h1, h2, h3, h4, h5, k100.2, h7, h8, h9, h10⟩
  · exact ⟨h1, h2, h3, h4, h5, h6, slip.1, slip.2, h9, h10⟩
  · exact ⟨h1, h2, h3, h4, h5, h6, h7, h8, Nat.le_of_not_lt hb, h10⟩
  · exact ⟨h1, h2, h3, h4, h5, h6, h7, h8, Nat.le_of_not_lt hb, advice.2⟩

/-- An admission item written leaves the group within its ranges. -/
theorem admission_write_inRange {a : AdmissionSettings} (i : Nat) (v : Int) (h : a.InRange) :
    (a.write i v).1.InRange := by
  unfold AdmissionSettings.InRange at h
  unfold AdmissionSettings.write AdmissionSettings.InRange fit clampInt
  split <;> dsimp only <;> omega

/-! ### The law in parts -/

/-- Both copies, D and A within their ranges. -/
def Ballast.InRange (b : Ballast) : Prop :=
  b.active.InRange ∧ b.shadow.InRange ∧ b.d ≤ 1000 ∧ b.a ≤ 16000

/-- Declared watts within their range. -/
def State.WattsInRange (s : State) : Prop := ∀ e : Entry, (s.load e).fields.watts ≤ 30000

/-- Fill records within their range. -/
def State.FillsInRange (s : State) : Prop := ∀ p : Port, (s.ltc.fills.get p).watts ≤ 30000

/-- The stored image and the one a save is writing within their ranges. -/
def Store.InRange (x : Store) : Prop :=
  (∀ d, x.image.contents = some d → d.InRange) ∧ ∀ t d, x.save = .running t d → d.InRange

theorem settingsLaw_iff (s : State) :
    SettingsLaw s ↔
      s.brg.InRange ∧ s.settings.InRange ∧ s.WattsInRange ∧ s.FillsInRange ∧ s.sst.InRange := by
  constructor
  · rintro ⟨h1, h2, h3, h4, h5, h6, h7, h8, h9⟩
    exact ⟨⟨h1, h2, h8, h9⟩, h3, h4, h5, h6, h7⟩
  · rintro ⟨⟨h1, h2, h8, h9⟩, h3, h4, h5, h6, h7⟩
    exact ⟨h1, h2, h3, h4, h5, h6, h7, h8, h9⟩

theorem settingsLaw_reads : Reads SettingsLaw [.regulator, .settings, .watts, .fills, .image, .saves] :=
  fun s t h hs => by
    have hb : t.brg = s.brg := h .regulator (by simp)
    have hv : t.settings = s.settings := h .settings (by simp)
    have hw : t.declared = s.declared := h .watts (by simp)
    have hf : t.ltc.fills = s.ltc.fills := h .fills (by simp)
    have hi : t.sst.image = s.sst.image := h .image (by simp)
    have hsave : t.sst.save = s.sst.save := (h .saves (by simp)).1
    obtain ⟨brg, settings, watts, fills, image, save⟩ := (settingsLaw_iff s).mp hs
    refine (settingsLaw_iff t).mpr ⟨hb ▸ brg, hv ▸ settings, fun e => ?_, fun p => ?_, ?_, ?_⟩
    · have same : (t.load e).fields.watts = (s.load e).fields.watts := congrFun hw e
      exact same ▸ watts e
    · rw [hf]; exact fills p
    · rw [hi]; exact image
    · rw [hsave]; exact save

/-- One part of the law replaced by what is in range, the others as they stand. -/
theorem settingsLaw_setBallast {s : State} (b : Ballast) (h : SettingsLaw s) (hb : b.InRange) :
    SettingsLaw { s with brg := b } :=
  (settingsLaw_iff _).mpr ⟨hb, ((settingsLaw_iff s).mp h).2⟩

theorem settingsLaw_setSettings {s : State} (v : Settings) (h : SettingsLaw s) (hv : v.InRange) :
    SettingsLaw { s with settings := v } :=
  (settingsLaw_iff _).mpr ⟨((settingsLaw_iff s).mp h).1, hv, ((settingsLaw_iff s).mp h).2.2⟩

theorem settingsLaw_setFills {s : State} (p : Port) (f : Fields) (h : SettingsLaw s)
    (hf : f.watts ≤ 30000) :
    SettingsLaw { s with ltc := { s.ltc with fills := s.ltc.fills.set p f } } := by
  obtain ⟨brg, settings, watts, fills, store⟩ := (settingsLaw_iff s).mp h
  refine (settingsLaw_iff _).mpr ⟨brg, settings, watts, fun q => ?_, store⟩
  show ((s.ltc.fills.set p f).get q).watts ≤ 30000
  by_cases e : q = p
  · subst e; rwa [PerPort.get_set_same]
  · rw [PerPort.get_set_other _ _ e]; exact fills q

theorem settingsLaw_setLoad {s : State} (e : Entry) (l : Load) (h : SettingsLaw s)
    (hl : l.fields.watts ≤ 30000) : SettingsLaw (s.setLoad e l) := by
  obtain ⟨brg, settings, watts, fills, store⟩ := (settingsLaw_iff s).mp h
  refine (settingsLaw_iff _).mpr ⟨brg, settings, fun x => ?_, fills, store⟩
  by_cases hx : x = e
  · subst hx; rwa [load_setLoad_same]
  · rw [load_setLoad_other s l hx]; exact watts x

theorem settingsLaw_setStore {s : State} (x : Store) (h : SettingsLaw s) (hx : x.InRange) :
    SettingsLaw { s with sst := x } := by
  obtain ⟨brg, settings, watts, fills, -⟩ := (settingsLaw_iff s).mp h
  exact (settingsLaw_iff _).mpr ⟨brg, settings, watts, fills, hx⟩

/-! ### Factory defaults, the load and the save -/

theorem factory_regulation_inRange : RegParams.factory.InRange := by
  unfold RegParams.InRange
  decide

theorem factory_settings_inRange : Settings.factory.InRange := by
  refine ⟨?_, ?_, fun p => ?_, by decide, by decide⟩
  · unfold SupervisionSettings.InRange; decide
  · unfold AdmissionSettings.InRange; decide
  · cases p <;> decide

theorem factory_inRange : ImageData.factory.InRange := by
  refine ⟨factory_regulation_inRange, factory_settings_inRange, ?_⟩
  decide

theorem loaded_inRange {x : Store} (h : x.InRange) : x.image.loaded.InRange := by
  unfold Image.loaded
  cases hc : x.image.contents with
  | none => exact factory_inRange
  | some d => exact h.1 d hc

theorem settingsLaw_takeLoad (s : State) (h : SettingsLaw s) : SettingsLaw s.takeLoad := by
  obtain ⟨-, -, -, fills, store⟩ := (settingsLaw_iff s).mp h
  obtain ⟨regulation, settings, -⟩ := loaded_inRange store
  have demand : s.sst.image.loaded.regulation.startDemand ≤ 1000 := regulation.2.2.2.2.1
  refine (settingsLaw_iff _).mpr ⟨⟨regulation, regulation, demand, ?_⟩, settings, fun e => ?_, fills, store⟩
  · show 16 * s.sst.image.loaded.regulation.startDemand ≤ 16000
    omega
  · rw [load_takeLoad]
    exact Nat.min_le_left _ _

/-- A state entered by a full reset has the factory values, whatever the image. -/
theorem settingsLaw_enterPhase_of_image (s : State) (ph : Phase) (v : Supply)
    (image : ∀ d, s.sst.image.contents = some d → d.InRange) : SettingsLaw (s.enterPhase ph v) := by
  refine (settingsLaw_iff _).mpr
    ⟨⟨factory_regulation_inRange, factory_regulation_inRange, Nat.zero_le _, Nat.zero_le _⟩,
      factory_settings_inRange, fun e => ?_, fun p => ?_, image, fun _ _ e => SaveState.noConfusion e⟩
  · rw [load_enterPhase]; exact Nat.zero_le _
  · cases p <;> exact Nat.zero_le _

theorem settingsLaw_enterPhase (s : State) (ph : Phase) (v : Supply) (h : SettingsLaw s) :
    SettingsLaw (s.enterPhase ph v) := by
  obtain ⟨-, -, -, -, image, -⟩ := (settingsLaw_iff s).mp h
  exact settingsLaw_enterPhase_of_image s ph v image

theorem workingImage_inRange {s : State} (h : SettingsLaw s) : s.workingImage.InRange := by
  obtain ⟨⟨active, -⟩, settings, watts, -⟩ := (settingsLaw_iff s).mp h
  refine ⟨active, settings, fun e => ?_⟩
  show ((Vector.ofFn fun e => (s.load e).fields.stored).get e).watts ≤ 30000
  simp only [Vector.get_eq_getElem, Vector.getElem_ofFn]
  exact watts e

theorem settingsLaw_runSave (s : State) (h : SettingsLaw s) : SettingsLaw s.runSave := by
  obtain ⟨-, -, -, -, image, -⟩ := (settingsLaw_iff s).mp h
  refine settingsLaw_setStore _ h ⟨image, fun t d e => ?_⟩
  cases e
  exact workingImage_inRange h

theorem settingsLaw_startAreaWrite (s : State) (h : SettingsLaw s) : SettingsLaw s.startAreaWrite := by
  unfold State.startAreaWrite
  split <;> exact h

theorem settingsLaw_saveEnded (s : State) (t : Time) (d : ImageData) (agrees : Bool) (h : SettingsLaw s)
    (hd : s.sst.save = .running t d) : SettingsLaw (s.saveEnded d agrees) := by
  obtain ⟨-, -, -, -, image, save⟩ := (settingsLaw_iff s).mp h
  have ended : SettingsLaw
      { s with sst := { s.sst with save := .idle, image := if agrees then d.stored else s.sst.image } } := by
    refine settingsLaw_setStore _ h ⟨fun x hx => ?_, fun _ _ e => SaveState.noConfusion e⟩
    replace hx : (if agrees then d.stored else s.sst.image).contents = some x := hx
    split at hx
    · rw [stored_contents] at hx; cases hx; exact save t d hd
    · exact image x hx
  cases agrees with
  | true => exact settingsLaw_reads.frame (frame_notice _ _ _ _) rfl ended
  | false =>
    exact settingsLaw_reads.frame (frame_raise _ _) rfl (settingsLaw_reads.frame (frame_notice _ _ _ _) rfl ended)

/-! ### Writes of entries -/

theorem mergeFields_watts (m : FieldMask) (old new : Fields) (h : old.watts ≤ 30000) :
    (mergeFields m old new).watts ≤ 30000 := by
  show (if m.getLsbD 5 then min maxWatts new.watts else old.watts) ≤ 30000
  split
  · exact Nat.min_le_left _ _
  · exact h

theorem settingsLaw_writeFields (s : State) (e : Entry) (m : FieldMask) (new : Fields) (h : SettingsLaw s) :
    SettingsLaw (s.writeFields e m new).1 := by
  have watts : s.WattsInRange := ((settingsLaw_iff s).mp h).2.2.1
  unfold State.writeFields
  dsimp only
  split
  · exact h
  · refine settingsLaw_reads.frame (frame_writeConsequences _ e _) rfl ?_
    exact settingsLaw_setLoad e _ h (mergeFields_watts _ _ _ (watts e))

theorem settingsLaw_writeAs (s : State) (p : Port) (e : Entry) (m : FieldMask) (new : Fields)
    (h : SettingsLaw s) : SettingsLaw (s.writeAs p e m new).1 := by
  unfold State.writeAs
  split
  · exact settingsLaw_writeFields s e m new h
  · exact h

theorem settingsLaw_fill (p : Port) (l : List Entry) (acc : State × List Byte) (h : SettingsLaw acc.1) :
    SettingsLaw (l.foldl (fillOne p) acc).1 := by
  induction l generalizing acc with
  | nil => exact h
  | cons e es ih => exact ih _ (settingsLaw_writeAs acc.1 p e _ _ h)

theorem settingsLaw_sawStarted (s : State) (w : Nat) (d : Bool) (h : SettingsLaw s) (hw : w ≤ 30000) :
    SettingsLaw (s.sawStarted w d) := by
  have staged := settingsLaw_reads.frame
    (frame_changeStage s { s.sws with stage := .waiting, lastStop := none } .sawStart id) rfl h
  have stored (t : State) (ht : SettingsLaw t) : SettingsLaw (t.setLoad sawEntry
      { t.load sawEntry with fields := { (t.load sawEntry).fields with watts := w } }) :=
    settingsLaw_setLoad sawEntry _ ht hw
  have placed := settingsLaw_reads.frame (frame_moveEntry _ sawEntry .waiting .sawStart rfl) rfl
    (stored _ staged)
  exact placed

theorem settingsLaw_resetPort (s : State) (p : Port) (h : SettingsLaw s) : SettingsLaw (s.resetPort p) := by
  have hunted := settingsLaw_reads.frame (frame_hunt s p) rfl h
  have emptied : SettingsLaw ((s.hunt p).dropPortKeeps p) :=
    settingsLaw_setFills (s := s.hunt p) p Fields.none hunted (Nat.zero_le _)
  exact settingsLaw_reads.frame (frame_setPort _ p _ rfl rfl) rfl emptied

/-! ### Writes of settings -/

theorem settingsLaw_writeSupervision (s : State) (i : Nat) (v : Int) (h : SettingsLaw s) :
    SettingsLaw (s.writeSupervision i v).1 := by
  obtain ⟨-, ⟨supervision, rest⟩, -⟩ := (settingsLaw_iff s).mp h
  unfold State.writeSupervision
  dsimp only
  split
  · exact h
  · next band =>
    have written := supervision_write_inRange i v supervision band
    have stored : SettingsLaw
        { s with settings := { s.settings with supervision := (s.settings.supervision.write i v).1 } } :=
      settingsLaw_setSettings _ h ⟨written, rest⟩
    split <;> exact stored

theorem settingsLaw_writeSlotPeriod (s : State) (v : Int) (h : SettingsLaw s) :
    SettingsLaw (s.writeSlotPeriod v).1 := by
  obtain ⟨-, ⟨supervision, admission, device, -⟩, -⟩ := (settingsLaw_iff s).mp h
  have stored : SettingsLaw { s with settings := { s.settings with slotPeriod := fit 1 240 v } } :=
    settingsLaw_setSettings _ h ⟨supervision, admission, device, fit_range 1 240 v (by omega)⟩
  unfold State.writeSlotPeriod
  dsimp only
  split
  · exact settingsLaw_reads.frame (frame_endSlot _ _) rfl stored
  · exact stored

theorem settingsLaw_setDevice (s : State) (d : DeviceSettings) (h : SettingsLaw s) (hd : d.InRange) :
    SettingsLaw (s.setDevice d) := by
  obtain ⟨-, ⟨supervision, admission, -, slot⟩, -⟩ := (settingsLaw_iff s).mp h
  exact settingsLaw_setSettings _ h ⟨supervision, admission, hd, slot⟩

/-- A value of one port replaced within its range. -/
theorem perPort_set {α : Type} {Q : α → Prop} (v : PerPort α) (q : Port) (x : α) (p : Port)
    (hv : Q (v.get p)) (hx : Q x) : Q ((v.set q x).get p) := by
  by_cases e : p = q
  · subst e; rwa [PerPort.get_set_same]
  · rwa [PerPort.get_set_other _ _ e]

theorem settingsLaw_writeBaud (s : State) (p q : Port) (v : Int) (h : SettingsLaw s) :
    SettingsLaw (s.writeBaud p q v).1 := by
  have device : s.settings.device.InRange := ((settingsLaw_iff s).mp h).2.1.2.2.1
  unfold State.writeBaud
  dsimp only
  split
  · next baud =>
    refine settingsLaw_reads.frame (frame_setPort _ p _ rfl rfl) rfl (settingsLaw_setDevice s _ h fun r => ?_)
    obtain ⟨low, high, rate, silence⟩ := device r
    exact ⟨low, high, perPort_set (Q := fun x => x = 57600 ∨ x = 115200) _ q _ r rate (by omega), silence⟩
  · exact h

theorem settingsLaw_writeSilence (s : State) (q : Port) (v : Int) (h : SettingsLaw s) :
    SettingsLaw (s.writeSilence q v).1 := by
  have device : s.settings.device.InRange := ((settingsLaw_iff s).mp h).2.1.2.2.1
  have set : SettingsLaw (s.setDevice
      { s.settings.device with silence := s.settings.device.silence.set q (fit 0 600 v) }) := by
    refine settingsLaw_setDevice s _ h fun r => ?_
    obtain ⟨low, high, rate, silence⟩ := device r
    exact ⟨low, high, rate, perPort_set (Q := (· ≤ 600)) _ q _ r silence (fit_range 0 600 v (by omega)).2⟩
  unfold State.writeSilence
  dsimp only
  split
  · exact settingsLaw_reads.frame (frame_setPort _ q _ rfl rfl) rfl set
  · exact set

theorem settingsLaw_writeCoded (s : State) (i x : Nat) (v : Int) (h : SettingsLaw s) :
    SettingsLaw (s.writeCoded i x v).1 := by
  have device : s.settings.device.InRange := ((settingsLaw_iff s).mp h).2.1.2.2.1
  unfold State.writeCoded
  dsimp only
  split
  · exact settingsLaw_reads.frame (frame_judgeAlarm _) rfl (settingsLaw_setDevice s _ h device)
  · exact settingsLaw_reads.frame (frame_judgeAlarm _) rfl (settingsLaw_setDevice s _ h device)
  · exact settingsLaw_setDevice s _ h device

theorem settingsLaw_writeDevice (s : State) (p : Port) (i x : Nat) (v : Int) (h : SettingsLaw s) :
    SettingsLaw (s.writeDevice p i x v).1 := by
  have device : s.settings.device.InRange := ((settingsLaw_iff s).mp h).2.1.2.2.1
  have region := (fit_range 0 15 v (by omega)).2
  unfold State.writeDevice
  dsimp only
  split
  · refine settingsLaw_setDevice s _ h fun r => ?_
    obtain ⟨low, rest⟩ := device r
    exact ⟨perPort_set (Q := (· ≤ 15)) _ _ _ r low region, rest⟩
  · refine settingsLaw_setDevice s _ h fun r => ?_
    obtain ⟨low, high, rest⟩ := device r
    exact ⟨low, perPort_set (Q := (· ≤ 15)) _ _ _ r high region, rest⟩
  · exact settingsLaw_writeBaud s p _ v h
  · exact settingsLaw_writeSilence s _ v h
  · exact settingsLaw_writeCoded s _ _ v h

theorem settingsLaw_writeItem (s : State) (p : Port) (g i x : Nat) (v : Int) (h : SettingsLaw s) :
    SettingsLaw (s.writeItem p g i x v).1 := by
  obtain ⟨⟨active, shadow, da⟩, ⟨supervision, admission, rest⟩, -⟩ := (settingsLaw_iff s).mp h
  refine keeps_writeItem s p g i x v ?_ (settingsLaw_writeSupervision s i v h) ?_ (fun e => ?_)
    (settingsLaw_writeSlotPeriod s v h) (settingsLaw_writeDevice s p i x v h)
  · unfold State.writeRegulation
    split
    · next written =>
      exact settingsLaw_setBallast _ h ⟨active, regParams_write_inRange shadow written, da⟩
    · exact h
  · rw [writeAdmission_state]
    refine settingsLaw_reads.frame (frame_afterAdmissionWrite _ i) rfl ?_
    exact settingsLaw_setSettings _ h ⟨supervision, admission_write_inRange i v admission, rest⟩
  · unfold State.writeLoadDefault
    split
    · split
      · exact h
      · exact settingsLaw_writeFields s e _ _ h
    · exact h

/-! ### The regulator -/

theorem ballast_inRange_closed : Ballast.Closed Ballast.InRange where
  state _ _ h := h
  line _ _ h := h
  enabled _ h := h
  left _ h := h
  transfer s how h := by
    obtain ⟨-, shadow, da⟩ := h
    rw [transfer_brg]
    exact ⟨shadow, shadow, da⟩
  updated b f now h := by
    obtain ⟨active, shadow, -, average⟩ := h
    have demand := updated_d_le b f now
    exact ⟨active, shadow, demand, averageAfter_range _ _ average demand⟩
  start s h := by
    obtain ⟨active, shadow, -, average⟩ := h
    rw [startDemand_brg]
    exact ⟨active, shadow, active.2.2.2.2.1, average⟩

/-- The law after an act of the regulator: the record in range, every other part as it stood. -/
theorem settingsLaw_regulator {s t : State} (hf : Frame [.regulator] s t) (h : SettingsLaw s)
    (hb : t.brg.InRange) : SettingsLaw t := by
  have base : SettingsLaw { s with brg := t.brg } := settingsLaw_setBallast t.brg h hb
  refine settingsLaw_reads { s with brg := t.brg } t (fun x hx => ?_) base
  by_cases e : x = .regulator
  · subst e; exact (rfl : t.brg = t.brg)
  · have same := hf x (by simpa using e)
    simp only [List.mem_cons, List.not_mem_nil, or_false] at hx
    rcases hx with rfl | rfl | rfl | rfl | rfl | rfl
    · exact absurd rfl e
    all_goals exact same

/-- Settles O10: a value is clamped where it is written, and every copy made of values in range is in
range. -/
theorem settingsLawKept : Obligations.SettingsLawKept := by
  refine kept_of_writers settingsLaw_reads (fun i s t hi h he => ?_) rfl
  have brg : s.brg.InRange := ((settingsLaw_iff s).mp h).1
  cases i with
  | fullResetAssert x =>
    exact keeps_fullReset h he (.inl ⟨x, rfl⟩) fun ph v _ => settingsLaw_enterPhase s ph v h
  | fullResetRelease mv b =>
    exact keeps_fullReset h he (.inr ⟨mv, b, rfl⟩) fun ph v _ => settingsLaw_enterPhase s ph v h
  | settingsLoadEnd =>
    refine keeps_settingsLoadEnd h he fun _ => ?_
    have given : SettingsLaw s.takeLoad.loadRaises.giveDemand :=
      settingsLaw_reads.frame (frame_giveDemand _) rfl <|
        settingsLaw_reads.frame (frame_loadRaises _) rfl (settingsLaw_takeLoad s h)
    have permitted := settingsLaw_reads.frame (frame_startPermit _) rfl <|
      settingsLaw_reads.frame (frame_startService _) rfl given
    rw [completeStartUp_eq]
    refine settingsLaw_reads.frame (frame_startEntries _) rfl <|
      settingsLaw_reads.frame (frame_readAuxiliaries _) rfl <|
      settingsLaw_reads.frame (frame_startLineLoss _) rfl ?_
    exact settingsLaw_regulator (frame_settleRegulation _) permitted
      (ballast_inRange_closed.settle _ ((settingsLaw_iff _).mp permitted).1)
  | regulationUpdate v =>
    rw [exec_regulationUpdate] at he
    exact keeps_whenRunning h he fun _ => settingsLaw_regulator (frame_periodTaken s v) h
      (ballast_inRange_closed.periodTaken s v brg)
  | lineStateAtRegulator l =>
    rw [exec_lineStateAtRegulator] at he
    refine keeps_whenRunning h he fun _ => settingsLaw_regulator ?_ h
      (ballast_inRange_closed.lineState s l brg)
    exact Frame.ite (fun _ => (frame_knowLine s l).trans (frame_startDemand _)) (fun _ => frame_knowLine s l)
  | applyRegulation p =>
    refine keeps_request settingsLaw_reads rfl h he fun _ => ?_
    dsimp only [State.done]
    split
    · exact settingsLaw_setBallast _ h brg
    · exact settingsLaw_regulator ((frame_transfer s 0).trans (frame_settleRegulation _)) h
        (ballast_inRange_closed.settle _ (ballast_inRange_closed.transfer s 0 brg))
  | writeEntry p e f w m =>
    refine keeps_request settingsLaw_reads rfl h he fun _ => ?_
    dsimp only
    split
    · exact h
    · exact settingsLaw_writeAs s p _ _ _ h
  | fillEntries p b n =>
    refine keeps_request settingsLaw_reads rfl h he fun _ => ?_
    dsimp only
    split
    · exact h
    · exact settingsLaw_fill p _ _ h
  | setFill p f w =>
    exact keeps_request settingsLaw_reads rfl h he fun _ =>
      settingsLaw_setFills p _ h (Nat.min_le_left _ _)
  | sawStart p w d =>
    refine keeps_request settingsLaw_reads rfl h he fun _ => ?_
    dsimp only
    split
    · exact h
    · next d _ =>
      split_ifs
      · exact h
      · exact h
      · exact h
      · exact h
      · exact settingsLaw_sawStarted s (max 100 (min 30000 w.toNat)) d h (by omega)
      · exact settingsLaw_sawStarted s (max 100 (min 30000 w.toNat)) d h (by omega)
  | lineBreak p =>
    refine keeps_whenRunning h he fun _ => ?_
    split
    · exact h
    · exact settingsLaw_reads.frame (frame_setPort _ p _ rfl rfl) rfl (settingsLaw_resetPort s p h)
  | portReset p => exact keeps_request settingsLaw_reads rfl h he fun _ => settingsLaw_resetPort s p h
  | saveRunStart =>
    refine keeps_whenRunning h he fun _ => ?_
    split
    · exact settingsLaw_runSave s h
    · exact h
  | tripAreaWriteStart => exact keeps_whenRunning h he fun _ => settingsLaw_startAreaWrite s h
  | tripAreaWriteEnd =>
    refine keeps_whenRunning h he fun _ => ?_
    split
    · exact settingsLaw_startAreaWrite _ h
    · exact h
  | saveSettings p =>
    refine keeps_request settingsLaw_reads rfl h he fun _ => ?_
    dsimp only [State.done]
    split
    · have started := settingsLaw_startAreaWrite s h
      have image := ((settingsLaw_iff _).mp started).2.2.2.2.1
      dsimp only
      split
      · exact settingsLaw_setStore _ started ⟨image, fun _ _ e => SaveState.noConfusion e⟩
      · exact settingsLaw_runSave _ started
    · exact h
  | saveEnd agrees =>
    refine keeps_whenRunning h he fun _ => ?_
    split
    · next n d running =>
      exact settingsLaw_startAreaWrite (s.saveEnded d agrees) (settingsLaw_saveEnded s n d agrees h running)
    · exact h
  | writeSetting p g i x v =>
    exact keeps_writeSetting settingsLaw_reads rfl h he fun _ => settingsLaw_writeItem s p _ _ _ _ h
  | _ => nomatch hi

end Sys2Proof.Machine
end

section
/-! PROOFS. The law of the saw: what each stage commands and which timers it owns. -/

namespace Sys2Proof.Machine

/-! ### Stages -/

/-- Commands and timers as the stage has them, and in SAW FAULT latch and record. -/
def Saw.Sound (w : Saw) : Prop :=
  w.commands = stageCommands w.stage
    ∧ (w.dwell.isSome = true ↔ w.stage = .star)
    ∧ (w.dead.isSome = true → w.stage = .changeover)
    ∧ (w.stopping.isSome = true ↔ w.stage = .stopping)
    ∧ (w.stage ∈ [SawStage.off, .waiting, .stopping, .fault] → w.checks = ⟨none, none, none⟩)
    ∧ (w.stage = .fault → w.latch = true ∧ w.record.isSome = true)

theorem sawLaw_iff (s : State) : SawLaw s ↔ s.sws.Sound := Iff.rfl

/-- Nothing commanded closed and no timer running. -/
def Saw.AtRest (w : Saw) : Prop :=
  w.commands = allOpen ∧ w.dwell = none ∧ w.dead = none ∧ w.stopping = none ∧ w.checks = noChecks

theorem Saw.AtRest.sound {w : Saw} (h : w.AtRest) (hs : w.stage = .off ∨ w.stage = .waiting) :
    w.Sound := by
  obtain ⟨commands, dwell, dead, stopping, checks⟩ := h
  unfold Saw.Sound
  rw [commands, dwell, dead, stopping, checks]
  rcases hs with hs | hs <;> rw [hs] <;> simp [stageCommands, allOpen, noChecks]

theorem Saw.AtRest.fault {w : Saw} (h : w.AtRest) (hs : w.stage = .fault) (hl : w.latch = true)
    (hr : w.record.isSome = true) : w.Sound := by
  obtain ⟨commands, dwell, dead, stopping, checks⟩ := h
  unfold Saw.Sound
  rw [commands, dwell, dead, stopping, checks, hs]
  simp [stageCommands, allOpen, noChecks, hl, hr]

/-- The timers a stage does not own are stopped. -/
theorem Saw.Sound.dwell_none {w : Saw} (h : w.Sound) (hs : w.stage ≠ .star) : w.dwell = none := by
  obtain ⟨-, dwell, -⟩ := h
  cases hd : w.dwell with
  | none => rfl
  | some t => exact absurd (dwell.mp (by rw [hd]; rfl)) hs

theorem Saw.Sound.dead_none {w : Saw} (h : w.Sound) (hs : w.stage ≠ .changeover) : w.dead = none := by
  obtain ⟨-, -, dead, -⟩ := h
  cases hd : w.dead with
  | none => rfl
  | some t => exact absurd (dead (by rw [hd]; rfl)) hs

theorem Saw.Sound.stopping_none {w : Saw} (h : w.Sound) (hs : w.stage ≠ .stopping) :
    w.stopping = none := by
  obtain ⟨-, -, -, stopping, -⟩ := h
  cases hd : w.stopping with
  | none => rfl
  | some t => exact absurd (stopping.mp (by rw [hd]; rfl)) hs

/-- In SAW OFF, WAITING and FAULT nothing is commanded and no timer runs. -/
theorem Saw.Sound.atRest {w : Saw} (h : w.Sound) (hs : w.stage ∈ [SawStage.off, .waiting, .fault]) :
    w.AtRest := by
  simp only [List.mem_cons, List.not_mem_nil, or_false] at hs
  have hd := h.dwell_none (by rcases hs with hs | hs | hs <;> rw [hs] <;> exact SawStage.noConfusion)
  have hc := h.dead_none (by rcases hs with hs | hs | hs <;> rw [hs] <;> exact SawStage.noConfusion)
  have ht := h.stopping_none (by rcases hs with hs | hs | hs <;> rw [hs] <;> exact SawStage.noConfusion)
  obtain ⟨commands, -, -, -, checks, -⟩ := h
  refine ⟨commands.trans ?_, hd, hc, ht, checks ?_⟩
  · rcases hs with hs | hs | hs <;> rw [hs] <;> rfl
  · rcases hs with hs | hs | hs <;> rw [hs] <;> simp

/-- In SAW STOPPING only the stopping limit runs. -/
theorem Saw.Sound.stopped {w : Saw} (h : w.Sound) (hs : w.stage = .stopping) :
    Saw.AtRest { w with stopping := none } := by
  have hd := h.dwell_none (by rw [hs]; exact SawStage.noConfusion)
  have hc := h.dead_none (by rw [hs]; exact SawStage.noConfusion)
  obtain ⟨commands, -, -, -, checks, -⟩ := h
  exact ⟨commands.trans (by rw [hs]; rfl), hd, hc, rfl, checks (by rw [hs]; simp)⟩

/-! ### The law and the operations of the Sequencer -/

theorem sawLaw_reads : Reads SawLaw [.saw] := fun s t h hs => by
  have hw : t.sws = s.sws := h .saw (by simp)
  rw [sawLaw_iff, hw]
  exact hs

theorem sawLaw_enterPhase (s : State) (ph : Phase) (v : Supply) : SawLaw (s.enterPhase ph v) :=
  Saw.AtRest.sound ⟨rfl, rfl, rfl, rfl, rfl⟩ (.inl rfl)

theorem reachOff_sws (s : State) (w : Saw) (c : SawCause) :
    (s.reachOff w c).sws = { w with stage := .off } :=
  frame_returnDisplaced (s.changeStage { w with stage := .off } c) .saw (by simp)

theorem sawLaw_reachOff (s : State) (w : Saw) (c : SawCause) (h : w.AtRest) : SawLaw (s.reachOff w c) := by
  rw [sawLaw_iff, reachOff_sws]
  exact Saw.AtRest.sound h (.inl rfl)

theorem sawLaw_enterSawFault (s : State) (k : Contactor) (kind : SawFaultKind) (c : SawCause) :
    SawLaw (s.enterSawFault k kind c) := by
  rw [enterSawFault_eq]
  exact Saw.AtRest.fault ⟨rfl, rfl, rfl, rfl, rfl⟩ rfl rfl rfl

/-- A stop leaves the saw as it is, in SAW STOPPING or at SAW OFF (R131, R132). -/
theorem sawLaw_stop (s : State) (c : SawCause) (h : SawLaw s) : SawLaw (s.stop c) := by
  have running (hs : s.sws.stage ∈ [SawStage.star, .changeover, .delta]) : SawLaw (s.stop c) := by
    rw [stop_runs s c hs]
    split
    · exact sawLaw_reachOff _ _ _ ⟨rfl, rfl, rfl, rfl, rfl⟩
    · refine (sawLaw_iff _).mpr ⟨rfl, ?_, ?_, ?_, fun _ => rfl, ?_⟩ <;>
        simp [State.changeStage, State.notice, Saw.halted]
  cases hs : s.sws.stage with
  | waiting =>
    rw [stop_waiting s c hs]
    exact sawLaw_reachOff s _ c (Saw.Sound.atRest h (by simp [hs]))
  | star => exact running (by simp [hs])
  | changeover => exact running (by simp [hs])
  | delta => exact running (by simp [hs])
  | off => rw [stop_rest s c (by simp [hs])]; exact h
  | stopping => rw [stop_rest s c (by simp [hs])]; exact h
  | fault => rw [stop_rest s c (by simp [hs])]; exact h

theorem sawLaw_endDwell (s : State) (h : SawLaw s) : SawLaw s.endDwell := by
  unfold State.endDwell
  split
  · next due =>
    have hs : s.sws.stage = .star := of_decide_eq_true (Bool.and_eq_true_iff.mp due).1
    have stopping := Saw.Sound.stopping_none h (by rw [hs]; exact SawStage.noConfusion)
    refine (sawLaw_iff _).mpr ⟨rfl, ?_, fun _ => rfl, ?_, ?_, ?_⟩ <;>
      simp [State.changeStage, State.notice, stopping]
  · exact h

theorem sawLaw_completeChangeover (s : State) (h : SawLaw s) : SawLaw s.completeChangeover := by
  unfold State.completeChangeover
  split
  · next due =>
    obtain ⟨hs, dead, -⟩ := due
    have stopping := Saw.Sound.stopping_none h (by rw [hs]; exact SawStage.noConfusion)
    have dwell := Saw.Sound.dwell_none h (by rw [hs]; exact SawStage.noConfusion)
    refine (sawLaw_iff _).mpr ⟨rfl, ?_, ?_, ?_, ?_, ?_⟩ <;>
      simp [State.changeStage, State.notice, stopping, dwell, dead]
  · exact h

theorem sawLaw_endDeadTime (s : State) (h : SawLaw s) : SawLaw s.endDeadTime := by
  unfold State.endDeadTime
  split
  · obtain ⟨commands, dwell, -, rest⟩ := h
    exact sawLaw_completeChangeover _ ⟨commands, dwell, fun hd => Bool.noConfusion hd, rest⟩
  · exact h

/-- A latch set with a record meets what SAW FAULT asks. -/
theorem sawLaw_setFault (s : State) (r : Option SawFault) (h : SawLaw s) (hr : r.isSome = true) :
    SawLaw { s with sws := { s.sws with latch := true, record := r } } := by
  obtain ⟨commands, dwell, dead, stopping, checks, -⟩ := h
  exact ⟨commands, dwell, dead, stopping, checks, fun _ => ⟨rfl, hr⟩⟩

theorem sawLaw_closedAtRest (s : State) (k : Contactor) (h : SawLaw s) : SawLaw (s.closedAtRest k) := by
  refine sawLaw_reads.frame (frame_raise _ _) rfl (sawLaw_setFault s _ h ?_)
  cases s.sws.record <;> rfl

theorem sawLaw_uncommandedChange (s : State) (k : Contactor) (b : Bool) (h : SawLaw s) :
    SawLaw (s.uncommandedChange k b) := by
  unfold State.uncommandedChange
  split
  · exact sawLaw_enterSawFault _ _ _ _
  · exact sawLaw_enterSawFault _ _ _ _
  · exact sawLaw_enterSawFault _ _ _ _
  · exact sawLaw_enterSawFault _ _ _ _
  · next hs =>
    split
    · split
      · exact sawLaw_enterSawFault _ _ _ _
      · exact h
    · have opened : SawLaw { s with sws := { s.sws with opened := s.sws.opened.set k true } } := h
      dsimp only
      split
      · exact sawLaw_reachOff _ _ _ (Saw.Sound.stopped opened hs)
      · exact opened
  · split
    · exact sawLaw_closedAtRest s k h
    · exact h
  · split
    · exact sawLaw_reads.frame (frame_raise _ _) rfl h
    · exact h

theorem sawLaw_expireSawWait (s : State) (h : SawLaw s) : SawLaw s.expireSawWait := by
  unfold State.expireSawWait
  split
  · split
    · refine sawLaw_reads.frame (frame_notice _ _ _ _) rfl (sawLaw_reads.frame (frame_refuseSaw _) rfl ?_)
      split
      · exact sawLaw_stop s _ h
      · exact h
    · exact h
  · exact h

theorem sawLaw_sawStarted (s : State) (w : Nat) (d : Bool) (h : SawLaw s) (hs : s.sws.stage = .off) :
    SawLaw (s.sawStarted w d) := by
  have rest := Saw.Sound.atRest (w := s.sws) h (by simp [hs])
  exact Saw.AtRest.sound (w := { s.sws with stage := .waiting, lastStop := none }) rest (.inr rfl)

theorem sawLaw_beginSignal (s : State) (h : SawLaw s) (hs : s.sws.stage = .waiting) :
    SawLaw
      (s.changeStage
        { s.sws with
          stage := .star, commands := ⟨true, true, false⟩,
          checks := { s.sws.checks with main := some s.timebase, star := some s.timebase }
          dwell := some s.timebase }
        .grant) := by
  obtain ⟨-, -, dead, stopping, -⟩ := Saw.Sound.atRest (w := s.sws) h (by simp [hs])
  refine (sawLaw_iff _).mpr ⟨rfl, ?_, ?_, ?_, ?_, ?_⟩ <;>
    simp [State.changeStage, State.notice, dead, stopping]

/-- A check timer stopped. -/
theorem sawLaw_stopCheck (s : State) (k : Contactor) (h : SawLaw s) :
    SawLaw { s with sws := { s.sws with checks := s.sws.checks.set k none } } := by
  obtain ⟨commands, dwell, dead, stopping, checks, fault⟩ := h
  refine ⟨commands, dwell, dead, stopping, fun hs => ?_, fault⟩
  show s.sws.checks.set k none = ⟨none, none, none⟩
  rw [checks hs]
  cases k <;> rfl

theorem sawLaw_goSilent (s : State) (p : Port) (h : SawLaw s) : SawLaw (s.goSilent p) := by
  have silent : SawLaw (((s.setPort p { s.port p with present := false, silence := none }).notice
      .portPresence p.number 0).raise .portSilent) := h
  unfold State.goSilent
  dsimp only
  split
  · exact sawLaw_stop _ _ silent
  · exact silent

theorem sawLaw_stoppingLimit (s : State) (h : SawLaw s) (hd : s.stoppingLimitDue = true) :
    SawLaw
      (match s.sws.lowestClosed with
        | some k => s.enterSawFault k .notOpen .notOpen
        | none => s.reachOff { s.sws with stopping := none } .contactorsOpen) := by
  have hs : s.sws.stage = .stopping := of_decide_eq_true (Bool.and_eq_true_iff.mp hd).1
  split
  · exact sawLaw_enterSawFault _ _ _ _
  · exact sawLaw_reachOff _ _ _ (Saw.Sound.stopped h hs)

theorem sawLaw_readAuxiliaries (s : State) (h : SawLaw s) : SawLaw s.readAuxiliaries := by
  unfold State.readAuxiliaries
  split
  · exact sawLaw_reads.frame (frame_takeRaise _ _) rfl (sawLaw_setFault s _ h rfl)
  · exact h

theorem sawLaw_afterAdmissionWrite (s : State) (i : Nat) (h : SawLaw s) :
    SawLaw (s.afterAdmissionWrite i) := by
  unfold State.afterAdmissionWrite
  split
  · exact sawLaw_reads.frame (frame_expireSlot _ 3) rfl <| sawLaw_reads.frame (frame_expireSlot _ 2) rfl <|
      sawLaw_reads.frame (frame_expireSlot _ 1) rfl <| sawLaw_reads.frame (frame_expireSlot _ 0) rfl h
  · exact sawLaw_reads.frame (frame_endRecovery s) rfl h
  · exact sawLaw_reads.frame (frame_endRestart s) rfl h
  · exact sawLaw_expireSawWait s h
  · exact sawLaw_endDwell s h
  · exact sawLaw_endDeadTime s h
  · exact h

/-- Settles O1: every change of stage sets the commands and timers of the stage it enters. -/
theorem sawLawKept : Obligations.SawLawKept := by
  refine kept_of_writers sawLaw_reads (fun i s t hi h he => ?_) rfl
  cases i with
  | fullResetAssert x => exact keeps_fullReset h he (.inl ⟨x, rfl⟩) fun ph v _ => sawLaw_enterPhase s ph v
  | fullResetRelease mv b =>
    exact keeps_fullReset h he (.inr ⟨mv, b, rfl⟩) fun ph v _ => sawLaw_enterPhase s ph v
  | settingsLoadEnd =>
    refine keeps_settingsLoadEnd h he fun _ => ?_
    have given : SawLaw s.takeLoad.loadRaises.giveDemand :=
      sawLaw_reads.frame (frame_giveDemand _) rfl <| sawLaw_reads.frame (frame_loadRaises _) rfl <|
        sawLaw_reads.frame (frame_takeLoad s) rfl h
    have settled := sawLaw_reads.frame (frame_settleRegulation _) rfl <|
      sawLaw_reads.frame (frame_startPermit _) rfl <| sawLaw_reads.frame (frame_startService _) rfl given
    rw [completeStartUp_eq]
    exact sawLaw_reads.frame (frame_startEntries _) rfl <| sawLaw_readAuxiliaries _ <|
      sawLaw_reads.frame (frame_startLineLoss _) rfl settled
  | sawStart p w d =>
    refine keeps_request sawLaw_reads rfl h he fun _ => ?_
    dsimp only
    split
    · exact h
    · next d _ =>
      split
      · exact h
      split
      · exact h
      next rest =>
      split
      · exact h
      split
      · exact h
      have off : s.sws.stage = .off := by_contra fun hs => rest (.inl hs)
      exact sawLaw_sawStarted s (max 100 (min 30000 w.toNat)) d h off
  | sawWaitExpiry => exact keeps_whenRunning h he fun _ => sawLaw_expireSawWait s h
  | beginSignal =>
    refine keeps_whenRunning h he fun _ => ?_
    split
    · next hs =>
      split
      · exact sawLaw_stop s _ h
      · exact sawLaw_beginSignal s h hs.1
    · exact h
  | stoppingLimitExpiry =>
    refine keeps_whenRunning h he fun _ => ?_
    split
    · next due => exact sawLaw_stoppingLimit s h due
    · exact h
  | sawEstopChange b =>
    cases he
    split
    · exact h
    · have level : SawLaw { s with sws := { s.sws with estop := b } } := h
      refine keeps_whenRunning level rfl fun _ => ?_
      split
      · exact sawLaw_stop _ _ level
      · exact level
  | sawStop p => exact keeps_request sawLaw_reads rfl h he fun _ => sawLaw_stop s _ h
  | stopFromLoadTable c => exact keeps_whenRunning h he fun _ => sawLaw_stop s _ h
  | clearSawFault p =>
    refine keeps_request sawLaw_reads rfl h he fun _ => ?_
    dsimp only [State.done]
    split
    · exact h
    split
    · exact h
    split
    · next hs =>
      have rest := Saw.Sound.atRest (w := s.sws) h (by simp [hs])
      refine sawLaw_reads.frame (frame_returnDisplaced _) rfl ?_
      exact Saw.AtRest.sound
        (w := { s.sws with latch := false, record := none, stage := .off }) rest (.inl rfl)
    · next hs =>
      obtain ⟨commands, dwell, dead, stopping, checks, -⟩ := h
      exact ⟨commands, dwell, dead, stopping, checks, fun e => absurd e hs⟩
  | presenceTimerExpiry p =>
    refine keeps_whenRunning h he fun _ => ?_
    split
    · exact sawLaw_goSilent s p h
    · exact h
  | auxChange k b =>
    cases he
    split
    · exact h
    · have level : SawLaw { s with sws := { s.sws with aux := s.sws.aux.set k b } } := h
      refine keeps_whenRunning level rfl fun _ => ?_
      split
      · exact sawLaw_completeChangeover _ level
      · exact sawLaw_uncommandedChange _ k b level
  | starDwellExpiry => exact keeps_whenRunning h he fun _ => sawLaw_endDwell s h
  | deadTimeExpiry => exact keeps_whenRunning h he fun _ => sawLaw_endDeadTime s h
  | checkTimerExpiry k =>
    refine keeps_whenRunning h he fun _ => ?_
    split
    · split
      · exact sawLaw_stopCheck s k h
      · exact sawLaw_enterSawFault _ _ _ _
    · exact h
  | writeSetting p g i x v =>
    refine keeps_writeSetting sawLaw_reads rfl h he fun _ => (keeps_writeItem s p _ _ _ _ ?_ ?_ ?_ ?_ ?_ ?_)
    · exact sawLaw_reads.frame (frame_writeRegulation s _ _ _) rfl h
    · exact sawLaw_reads.frame (frame_writeSupervision s _ _) rfl h
    · rw [writeAdmission_state]; exact sawLaw_afterAdmissionWrite _ _ h
    · exact fun e => sawLaw_reads.frame (frame_writeLoadDefault s p e _ _) rfl h
    · exact sawLaw_reads.frame (frame_writeSlotPeriod s _) rfl h
    · exact sawLaw_reads.frame (frame_writeDevice s p _ _ _) rfl h
  | _ => nomatch hi

end Sys2Proof.Machine
end

section
/-! PROOFS. What writes of entries keep, and the law of the shed chain: no repeats, at most 15 entries, no
essential one. -/

namespace Sys2Proof.Machine

/-! ### Writes of entries by a port -/

section
variable {P : State → Prop}

/-- What the write of one entry keeps, a port's write of it keeps. -/
theorem keeps_writeAs
    (hw : ∀ s e m new, s.phase = .running → P s → P (s.writeFields e m new).1) (s : State) (p : Port)
    (e : Entry) (m : FieldMask) (new : Fields) (hrun : s.phase = .running) (h : P s) :
    P (s.writeAs p e m new).1 := by
  unfold State.writeAs
  split
  · exact hw s e m new hrun h
  · exact h

theorem keeps_fill
    (hw : ∀ s e m new, s.phase = .running → P s → P (s.writeFields e m new).1) (p : Port)
    (l : List Entry) (acc : State × List Byte) (hrun : acc.1.phase = .running) (h : P acc.1) :
    P (l.foldl (fillOne p) acc).1 := by
  induction l generalizing acc with
  | nil => exact h
  | cons e es ih =>
    refine ih _ ?_ (keeps_writeAs hw acc.1 p e _ _ hrun h)
    exact (frame_writeAs acc.1 p e _ _ .phase (by simp)).trans hrun

theorem keeps_writeEntry {parts : List Part} (hr : Reads P parts)
    (hp : Part.apart parts [.senders] = true)
    (hw : ∀ s e m new, s.phase = .running → P s → P (s.writeFields e m new).1) {p : Port}
    {b f : Byte} {w : Half} {m : Option Byte} {s t : State} (h : P s)
    (he : exec (.writeEntry p b f w m) s = .next t) : P t := by
  refine keeps_request hr hp h he fun hrun => ?_
  dsimp only
  split
  · exact h
  · exact keeps_writeAs hw s p _ _ _ hrun h

theorem keeps_fillEntries {parts : List Part} (hr : Reads P parts)
    (hp : Part.apart parts [.senders] = true)
    (hw : ∀ s e m new, s.phase = .running → P s → P (s.writeFields e m new).1) {p : Port}
    {b n : Byte} {s t : State} (h : P s) (he : exec (.fillEntries p b n) s = .next t) : P t := by
  refine keeps_request hr hp h he fun hrun => ?_
  dsimp only
  split
  · exact h
  · exact keeps_fill hw p _ (s, []) hrun h

theorem keeps_writeLoadDefault
    (hw : ∀ s e m new, s.phase = .running → P s → P (s.writeFields e m new).1) (s : State) (p : Port)
    (e : Entry) (i : Nat) (v : Int) (hrun : s.phase = .running) (h : P s) :
    P (s.writeLoadDefault p e i v).1 := by
  unfold State.writeLoadDefault
  split
  · split
    · exact h
    · exact hw s e _ _ hrun h
  · exact h

end

/-! ### Chains as links spell them (R90) -/

theorem length_walk (c : StoredChain) {n : Nat} {x : Option Entry} {l : List Entry}
    (h : c.walk n x = some l) : l.length ≤ n := by
  induction n generalizing x l with
  | zero => cases x with
    | none => cases h; exact Nat.le_refl 0
    | some e => cases h
  | succ n ih =>
    cases x with
    | none => cases h; exact Nat.zero_le _
    | some e =>
      unfold StoredChain.walk at h
      split at h
      · obtain ⟨tail, ht, rfl⟩ := Option.map_eq_some_iff.mp h
        exact Nat.succ_le_succ (ih ht)
      · cases h

/-- A walk that begins at an entry has it first, and goes on at its link. -/
theorem walk_some (c : StoredChain) {n : Nat} {e : Entry} {l : List Entry}
    (h : c.walk n (some e) = some l) :
    ∃ m next tail, n = m + 1 ∧ c.links.get e = some next ∧ c.walk m next = some tail ∧ l = e :: tail := by
  cases n with
  | zero => cases h
  | succ m =>
    unfold StoredChain.walk at h
    split at h
    · next next hl =>
      obtain ⟨tail, ht, rfl⟩ := Option.map_eq_some_iff.mp h
      exact ⟨m, next, tail, rfl, hl, ht, rfl⟩
    · cases h

/-- The links alone say what a walk finds, whatever the steps given. -/
theorem walk_unique (c : StoredChain) {n m : Nat} {x : Option Entry} {k l : List Entry}
    (hk : c.walk n x = some k) (hl : c.walk m x = some l) : k = l := by
  induction n generalizing m x k l with
  | zero => cases x with
    | none => cases hk; cases m <;> (cases hl; rfl)
    | some e => cases hk
  | succ n ih =>
    cases x with
    | none => cases hk; cases m <;> (cases hl; rfl)
    | some e =>
      obtain ⟨n', next, kt, hn, hnext, hkt, rfl⟩ := walk_some c hk
      obtain ⟨m', next', lt, -, hnext', hlt, rfl⟩ := walk_some c hl
      cases hn
      cases hnext.symm.trans hnext'
      rw [ih hkt hlt]

/-- From an entry it meets, a walk is one that begins there. -/
theorem walk_from (c : StoredChain) {n : Nat} {x : Option Entry} {l : List Entry} {e : Entry}
    (h : c.walk n x = some l) (he : e ∈ l) :
    ∃ m k, c.walk m (some e) = some k ∧ k.length ≤ l.length := by
  induction l generalizing n x with
  | nil => cases he
  | cons y ys ih =>
    obtain _ | y' := x
    · cases n <;> cases h
    · obtain ⟨m, next, tail, -, -, ht, heq⟩ := walk_some c h
      cases heq
      rcases List.mem_cons.mp he with rfl | he
      · exact ⟨n, _, h, Nat.le_refl _⟩
      · obtain ⟨m', k, hk, hlen⟩ := ih ht he
        exact ⟨m', k, hk, Nat.le_succ_of_le hlen⟩

/-- A walk that reaches the end meets no entry twice. -/
theorem nodup_walk (c : StoredChain) {n : Nat} {x : Option Entry} {l : List Entry}
    (h : c.walk n x = some l) : l.Nodup := by
  induction l generalizing n x with
  | nil => exact List.nodup_nil
  | cons y ys ih =>
    obtain _ | y' := x
    · cases n <;> cases h
    · obtain ⟨m, next, tail, -, -, ht, heq⟩ := walk_some c h
      cases heq
      refine List.nodup_cons.mpr ⟨fun hy => ?_, ih ht⟩
      obtain ⟨m', k, hk, hlen⟩ := walk_from c ht hy
      cases walk_unique c hk h
      exact absurd hlen (by simp)

/-! ### The law of the chain -/

theorem chainLaw_reads : Reads ChainLaw [.chain, .essentials] := fun s t h hs => by
  have hc : t.ltc.chain = s.ltc.chain := h .chain (by simp)
  have he : t.essentials = s.essentials := h .essentials (by simp)
  obtain ⟨nodup, length, plain⟩ := hs
  unfold ChainLaw
  rw [hc]
  exact ⟨nodup, length, fun e hm => (congrFun he e).trans (plain e hm)⟩

theorem chainLaw_enterPhase (s : State) (ph : Phase) (v : Supply) : ChainLaw (s.enterPhase ph v) :=
  ⟨List.nodup_nil, Nat.zero_le _, fun _ h => (List.not_mem_nil h).elim⟩

theorem validChain_sound (d : ImageData) (l : List Entry) (h : d.validChain = some l) :
    l.Nodup ∧ l.length ≤ 15 ∧ ∀ e ∈ l, (d.loads.get e).essential = false := by
  unfold ImageData.validChain at h
  split at h
  · next k hk =>
    split at h
    · cases h
    · next none =>
      cases h
      refine ⟨nodup_walk _ hk, length_walk _ hk, fun e he => ?_⟩
      exact Bool.eq_false_iff.mpr fun hb => none (List.any_eq_true.mpr ⟨e, he, hb⟩)
  · cases h

theorem chainLaw_takeLoad (s : State) : ChainLaw s.takeLoad := by
  have chain : s.takeLoad.ltc.chain = s.sst.image.loaded.validChain.getD [] := rfl
  unfold ChainLaw
  rw [chain]
  cases hc : s.sst.image.loaded.validChain with
  | none => exact ⟨List.nodup_nil, Nat.zero_le _, fun _ h => (List.not_mem_nil h).elim⟩
  | some l =>
    obtain ⟨nodup, length, plain⟩ := validChain_sound _ l hc
    refine ⟨nodup, length, fun e he => ?_⟩
    rw [load_takeLoad]
    exact plain e he

theorem mem_insertAfter (a e x : Entry) (l : List Entry) (h : x ∈ insertAfter a e l) : x = e ∨ x ∈ l := by
  induction l with
  | nil => exact .inr h
  | cons y ys ih =>
    unfold insertAfter at h
    split at h
    · simpa [or_left_comm] using h
    · rcases List.mem_cons.mp h with rfl | h
      · exact .inr (by simp)
      · exact (ih h).imp_right (List.mem_cons_of_mem _)

theorem nodup_insertAfter (a e : Entry) (l : List Entry) (h : l.Nodup) (he : e ∉ l) :
    (insertAfter a e l).Nodup := by
  induction l with
  | nil => exact h
  | cons y ys ih =>
    obtain ⟨hy, hys⟩ := List.nodup_cons.mp h
    obtain ⟨hne, hes⟩ := not_or.mp (List.mem_cons.not.mp he)
    unfold insertAfter
    split
    · exact List.nodup_cons.mpr ⟨by simp [hy, Ne.symm hne], List.nodup_cons.mpr ⟨hes, hys⟩⟩
    · refine List.nodup_cons.mpr ⟨fun hm => ?_, ih hys hes⟩
      exact (mem_insertAfter _ _ _ _ hm).elim (fun h => hne h.symm) hy

theorem length_insertAfter (a e : Entry) (l : List Entry) : (insertAfter a e l).length ≤ l.length + 1 := by
  induction l with
  | nil => exact Nat.zero_le _
  | cons y ys ih =>
    unfold insertAfter
    split
    · exact Nat.le_refl _
    · exact Nat.succ_le_succ ih

/-- A placement moves an entry of the chain or puts a new one in (R91). -/
theorem placed_sound (l : List Entry) (e : Entry) (a : Option Entry) (h : l.Nodup) :
    (placed l e a).Nodup ∧ (placed l e a).length ≤ (l.erase e).length + 1
      ∧ ∀ x ∈ placed l e a, x = e ∨ x ∈ l := by
  have nodup : (l.erase e).Nodup := h.erase e
  have out : e ∉ l.erase e := h.not_mem_erase
  cases a with
  | none =>
    exact ⟨List.nodup_cons.mpr ⟨out, nodup⟩, Nat.le_refl _,
      fun x hx => (List.mem_cons.mp hx).imp_right List.mem_of_mem_erase⟩
  | some a =>
    exact ⟨nodup_insertAfter a e _ nodup out, length_insertAfter a e _,
      fun x hx => (mem_insertAfter a e x _ hx).imp_right List.mem_of_mem_erase⟩

theorem chainLaw_place (s : State) (e : Entry) (a : Option Entry) (h : ChainLaw s)
    (hc : s.placeConflicts e a = false) :
    ChainLaw { s with ltc := { s.ltc with chain := placed s.ltc.chain e a } } := by
  obtain ⟨nodup, length, plain⟩ := h
  obtain ⟨hn, hl, hm⟩ := placed_sound s.ltc.chain e a nodup
  obtain ⟨⟨hess, -⟩, hroom⟩ : (_ ∧ _) ∧ _ := by
    simpa only [State.placeConflicts, Bool.or_eq_false_iff] using hc
  refine ⟨hn, ?_, fun x hx => ?_⟩
  · refine Nat.le_trans hl ?_
    by_cases he : e ∈ s.ltc.chain
    · have := List.length_pos_of_mem he
      rw [List.length_erase_of_mem he]
      omega
    · rw [List.erase_of_not_mem he]
      simp [he] at hroom
      omega
  · rcases hm x hx with rfl | hx
    · exact hess
    · exact plain x hx

/-- The essential fields as a write that is no conflict leaves them (R83). -/
theorem essentials_writeConsequences (s : State) (e : Entry) (old after : Fields) (x : Entry) :
    (((s.storeFields e after).writeConsequences e old).load x).fields.essential =
      if x = e then after.essential else (s.load x).fields.essential := by
  have kept := congrFun (frame_writeConsequences (s.storeFields e after) e old .essentials (by simp)) x
  refine Eq.trans kept ?_
  show ((s.setLoad e { s.load e with fields := after }).load x).fields.essential = _
  split
  · next hx => rw [hx, load_setLoad_same]
  · next hx => rw [load_setLoad_other s _ hx]

theorem chainLaw_writeFields (s : State) (e : Entry) (m : FieldMask) (new : Fields)
    (_ : s.phase = .running) (h : ChainLaw s) : ChainLaw (s.writeFields e m new).1 := by
  unfold State.writeFields
  dsimp only
  split
  · exact h
  · next noConflict =>
    obtain ⟨nodup, length, plain⟩ := h
    have chain : ((s.storeFields e (mergeFields m (s.load e).fields new)).writeConsequences e
        (s.load e).fields).ltc.chain = s.ltc.chain :=
      frame_writeConsequences _ e _ .chain (by simp)
    unfold ChainLaw
    rw [chain]
    refine ⟨nodup, length, fun x hx => ?_⟩
    rw [essentials_writeConsequences]
    split
    · next hxe =>
      subst hxe
      refine Bool.eq_false_iff.mpr fun hess => noConflict ?_
      simp [State.writeConflicts, hess, hx]
    · exact plain x hx

/-- Settles O5: a placement and a write each refuse what would break the law, and a loaded chain is one
whose links reach the end. -/
theorem chainLawKept : Obligations.ChainLawKept := by
  refine kept_of_writers chainLaw_reads (fun i s t hi h he => ?_) rfl
  cases i with
  | fullResetAssert x => exact keeps_fullReset h he (.inl ⟨x, rfl⟩) fun ph v _ => chainLaw_enterPhase s ph v
  | fullResetRelease mv b =>
    exact keeps_fullReset h he (.inr ⟨mv, b, rfl⟩) fun ph v _ => chainLaw_enterPhase s ph v
  | settingsLoadEnd =>
    exact keeps_settingsLoadEnd h he fun _ => chainLaw_reads.frame (frame_completeStartUp _) rfl <|
      chainLaw_reads.frame (frame_giveDemand _) rfl <| chainLaw_reads.frame (frame_loadRaises _) rfl <|
      chainLaw_takeLoad s
  | writeEntry p b f w m => exact keeps_writeEntry chainLaw_reads rfl chainLaw_writeFields h he
  | fillEntries p b n => exact keeps_fillEntries chainLaw_reads rfl chainLaw_writeFields h he
  | chainPlace p b a =>
    refine keeps_request chainLaw_reads rfl h he fun _ => ?_
    dsimp only [State.done]
    split
    · split
      · exact h
      · next noConflict => exact chainLaw_place s _ _ h (Bool.eq_false_iff.mpr noConflict)
    · exact h
  | chainRemove p b =>
    refine keeps_request chainLaw_reads rfl h he fun _ => ?_
    dsimp only [State.done]
    split
    · exact h
    · split
      · obtain ⟨nodup, length, plain⟩ := h
        exact ⟨nodup.erase _, Nat.le_trans (List.length_erase_le ..) length,
          fun x hx => plain x (List.mem_of_mem_erase hx)⟩
      · exact h
  | writeSetting p g i x v =>
    refine keeps_writeSetting chainLaw_reads rfl h he fun hrun =>
      (keeps_writeItem s p _ _ _ _ ?_ ?_ ?_ ?_ ?_ ?_)
    · exact chainLaw_reads.frame (frame_writeRegulation s _ _ _) rfl h
    · exact chainLaw_reads.frame (frame_writeSupervision s _ _) rfl h
    · exact chainLaw_reads.frame (frame_writeAdmission s _ _) rfl h
    · exact fun e => keeps_writeLoadDefault chainLaw_writeFields s p e _ _ hrun h
    · exact chainLaw_reads.frame (frame_writeSlotPeriod s _) rfl h
    · exact chainLaw_reads.frame (frame_writeDevice s p _ _ _) rfl h
  | _ => nomatch hi

end Sys2Proof.Machine
end

section
/-! PROOFS. Laws of the load table and the Admission Unit: a law kept by the moves of entries, and by the few
operations that move an entry into a place of its own, is kept by every step. -/

namespace Sys2Proof.Machine

/-! ### What such a law is kept by -/

/-- An entry SHED for UNDERFREQUENCY and put onto the stack (R100). -/
def State.shedOnto (s : State) (e : Entry) : State :=
  let t := s.moveEntry e .shedUnderfrequency .shed
  { t with shc := { t.shc with stack := t.shc.stack ++ [e] } }

/-- The shed stack emptied. -/
def State.unstack (s : State) : State := { s with shc := { s.shc with stack := [] } }

/-- A law of entries and of the places that hold them, kept by every operation that moves one. -/
structure Moved (P : State → Prop) : Prop where
  reads : Reads P (.phase :: moving)
  reset (s : State) (ph : Phase) (v : Supply) : P (s.enterPhase ph v)
  load (s : State) : s.phase = .starting → P s → P s.takeLoad
  service (s : State) : s.phase ≠ .running → P s → P s.startService
  move (s : State) (e : Entry) (d : EntryState) (c : MoveCause) : s.phase = .running →
    d.isReserved = false → d ≠ .displaced → P s → P (s.moveEntry e d c)
  write (s : State) (e : Entry) (m : FieldMask) (new : Fields) : s.phase = .running → P s →
    P (s.writeFields e m new).1
  ended (s : State) (r : Reservation) (c : MoveCause) : s.phase = .running → r ∈ s.adu.table → P s →
    P (s.endReservation r c)
  arrivals (s : State) (wd : Nat) : s.phase = .running → P s → P (s.arrivals wd)
  granted (s : State) (e : Entry) (k : Fin 4) (r : RegRecord) : s.phase = .running → e ∈ s.adu.queue →
    freeSlot s.adu.table = some k → P s → P (s.granted e k r)
  displaceOne (short : Int) (acc : State × Nat) (e : Entry) : acc.1.phase = .running → P acc.1 →
    P (displaceOne short acc e).1
  returned (s : State) : s.phase = .running → P s → P s.returnDisplaced
  shedOnto (s : State) (e : Entry) : s.phase = .running → (s.entryState e).energised = true → P s →
    P (s.shedOnto e)
  unstack (s : State) : P s → P s.unstack

namespace Moved

variable {P : State → Prop} (hm : Moved P) {s t : State}

include hm

/-- A change that touches neither the phase nor what a move touches keeps the law. -/
theorem still {touched : List Part} (hf : Frame touched s t)
    (hd : Part.apart (.phase :: moving) touched = true) (h : P s) : P t := hm.reads.frame hf hd h

/-! ### Walks -/

omit hm in
/-- What each act of a walk keeps while running, the walk keeps. -/
theorem foldl {α : Type} {f : State → α → State} {touched : List Part}
    (hf : ∀ s x, Frame touched s (f s x)) (ht : Part.apart [.phase] touched = true)
    (hk : ∀ s x, s.phase = .running → P s → P (f s x)) (l : List α) (s : State)
    (hrun : s.phase = .running) (h : P s) : P (l.foldl f s) := by
  induction l generalizing s with
  | nil => exact h
  | cons x xs ih =>
    have phase : (f s x).phase = s.phase :=
      hf s x .phase (Part.not_mem_of_apart ht .phase (List.mem_singleton.mpr rfl))
    exact ih _ (phase.trans hrun) (hk s x hrun h)

omit hm in
theorem forEntries {test : State → Entry → Bool} {act : State → Entry → State}
    (hf : ∀ s e, Frame moving s (act s e)) (hk : ∀ s e, s.phase = .running → P s → P (act s e))
    (s : State) (hrun : s.phase = .running) (h : P s) : P (s.forEntries test act) := by
  refine Moved.foldl (fun s e => Frame.ite (fun _ => hf s e) (fun _ => Frame.refl)) rfl (fun s e hrun h => ?_)
    _ s hrun h
  split
  · exact hk s e hrun h
  · exact h

theorem moveAll {test : State → Entry → Bool} (d : EntryState) (c : MoveCause) (hr : d.isReserved = false)
    (hd : d ≠ .displaced) (s : State) (hrun : s.phase = .running) (h : P s) :
    P (s.forEntries test fun s e => s.moveEntry e d c) :=
  Moved.forEntries (fun s e => frame_moveEntry s e d c hr) (fun s e hrun h => hm.move s e d c hrun hr hd h) s
    hrun h

theorem wantEntry (s : State) (e : Entry) (c : MoveCause) (hrun : s.phase = .running) (h : P s) :
    P (s.wantEntry e c) := by
  unfold State.wantEntry
  split
  · exact hm.move s e _ c hrun rfl EntryState.noConfusion h
  · exact hm.move s e _ c hrun rfl EntryState.noConfusion h

theorem applySlot (a : AllowedSet) (hrun : s.phase = .running) (h : P s) : P (s.applySlot a) := by
  have excluded := hm.moveAll (test := fun t e => t.slotExcludes (if s.rtp.playing then a else allowAll) e)
    .rotaOff .rotaExclude rfl EntryState.noConfusion s hrun h
  have phase := Frame.forEntries
    (test := fun t e => t.slotExcludes (if s.rtp.playing then a else allowAll) e)
    (fun s e => frame_moveEntry s e .rotaOff .rotaExclude rfl) s .phase (by simp)
  exact hm.moveAll .waiting .rotaInclude rfl EntryState.noConfusion _ (phase.trans hrun) excluded

theorem loseEntry (s : State) (e : Entry) (hrun : s.phase = .running) (h : P s) : P (s.loseEntry e) := by
  unfold State.loseEntry
  split
  · exact hm.still (frame_post _ _) rfl (hm.move s e _ _ hrun rfl EntryState.noConfusion h)
  · exact hm.move s e _ _ hrun rfl EntryState.noConfusion h

/-! ### The Admission Unit -/

theorem expireRecord (r : Reservation) (hrun : s.phase = .running) (hr : r ∈ s.adu.table) (h : P s) :
    P (s.expireRecord r) :=
  hm.still (frame_notice _ _ _ _) rfl <| hm.still (frame_raise _ _) rfl <|
    hm.still (frame_markNotSeen _ _ _) rfl (hm.ended s r _ hrun hr h)

theorem expireSlot (k : Fin 4) (hrun : s.phase = .running) (h : P s) : P (s.expireSlot k) := by
  unfold State.expireSlot
  split
  · next r found => exact hm.expireRecord r hrun (List.mem_of_find?_eq_some found) h
  · exact h

theorem grant (e : Entry) (k : Fin 4) (r : RegRecord) (hrun : s.phase = .running)
    (he : e ∈ s.adu.queue) (hk : freeSlot s.adu.table = some k) (h : P s) : P (s.grant e k r) := by
  have granted := hm.granted s e k r hrun he hk h
  rw [grant_eq]
  split
  · exact hm.still (frame_post _ _) rfl granted
  · exact granted

theorem displace (short : Int) (hrun : s.phase = .running) (h : P s) : P (s.displace short) := by
  have walked : ∀ (l : List Entry) (acc : State × Nat), acc.1.phase = .running → P acc.1 →
      P (l.foldl (Machine.displaceOne short) acc).1 := by
    intro l
    induction l with
    | nil => exact fun _ _ h => h
    | cons e es ih =>
      intro acc hrun h
      have phase := frame_displaceOne short acc e .phase (by simp)
      exact ih _ (phase.trans hrun) (hm.displaceOne short acc e hrun h)
  exact hm.still (Frame.intro (by rfl) : Frame [] _ _) rfl (walked s.ltc.chain (s, 0) hrun h)

omit hm in
theorem mem_examined {e : Entry} (h : e ∈ s.examined) : e ∈ s.adu.queue := by
  unfold State.examined at h
  split at h
  · exact List.mem_of_mem_erase h
  · exact h

theorem examine (r : RegRecord) (hrun : s.phase = .running) (h : P s) : P (s.examine r) := by
  unfold State.examine
  split
  · next e es k head free =>
    dsimp only
    have queued : e ∈ s.adu.queue := Moved.mem_examined (by rw [head]; exact List.mem_cons_self ..)
    split
    · split
      · exact hm.grant e k r hrun queued free h
      · split
        · exact hm.displace _ hrun h
        · exact h
    · exact h
  · exact h

/-! ### The saw at SAW OFF (R67, R136) -/

theorem reachOff (w : Saw) (c : SawCause) (hrun : s.phase = .running) (h : P s) : P (s.reachOff w c) := by
  have staged : Frame [.saw, .delta] s (s.changeStage { w with stage := .off } c) :=
    frame_changeStage_delta s _ c
  have phase := staged .phase (by simp)
  exact hm.still (frame_post _ _) rfl (hm.returned _ (phase.trans hrun) (hm.still staged rfl h))

theorem stop (c : SawCause) (hrun : s.phase = .running) (h : P s) : P (s.stop c) := by
  have running (hs : s.sws.stage ∈ [SawStage.star, .changeover, .delta]) : P (s.stop c) := by
    have staged := frame_changeStage_delta s (s.sws.halted s.timebase c) c
    have phase := staged .phase (by simp)
    rw [stop_runs s c hs]
    split
    · exact hm.reachOff _ _ (phase.trans hrun) (hm.still staged rfl h)
    · exact hm.still staged rfl h
  cases hs : s.sws.stage with
  | waiting => rw [stop_waiting s c hs]; exact hm.reachOff _ _ hrun h
  | star => exact running (by simp [hs])
  | changeover => exact running (by simp [hs])
  | delta => exact running (by simp [hs])
  | off => rw [stop_rest s c (by simp [hs])]; exact h
  | stopping => rw [stop_rest s c (by simp [hs])]; exact h
  | fault => rw [stop_rest s c (by simp [hs])]; exact h

theorem expireSawWait (hrun : s.phase = .running) (h : P s) : P s.expireSawWait := by
  unfold State.expireSawWait
  split
  · split
    · refine hm.still (frame_notice _ _ _ _) rfl (hm.still (frame_refuseSaw _) rfl ?_)
      split
      · exact hm.stop _ hrun h
      · exact h
    · exact hm.still (Frame.intro (by rfl) : Frame [] _ _) rfl h
  · exact h

theorem uncommandedChange (k : Contactor) (b : Bool) (hrun : s.phase = .running) (h : P s) :
    P (s.uncommandedChange k b) := by
  have faulted : P (s.enterSawFault k .uncommanded .feedback) :=
    hm.still (frame_enterSawFault s k _ _) rfl h
  unfold State.uncommandedChange
  split
  · exact faulted
  · exact faulted
  · exact faulted
  · exact faulted
  · split
    · split
      · exact faulted
      · exact h
    · have noted : Frame [.saw] s { s with sws := { s.sws with opened := s.sws.opened.set k true } } :=
        Frame.intro (by rfl)
      dsimp only
      split
      · exact hm.reachOff _ _ (s := { s with sws := { s.sws with opened := s.sws.opened.set k true } }) hrun
          (hm.still noted rfl h)
      · exact hm.still noted rfl h
  · split
    · exact hm.still (frame_closedAtRest s k) rfl h
    · exact h
  · split
    · exact hm.still (frame_raise _ _) rfl h
    · exact h

theorem sawStarted (w : Nat) (d : Bool) (hrun : s.phase = .running) (h : P s) : P (s.sawStarted w d) := by
  have staged := frame_changeStage_delta s { s.sws with stage := .waiting, lastStop := none } .sawStart
  have stored := hm.still (frame_setWatts _ sawEntry w) rfl (hm.still staged rfl h)
  have queued := hm.move _ sawEntry .waiting .sawStart (by exact hrun) rfl EntryState.noConfusion stored
  exact hm.still (Frame.intro (by rfl) : Frame [] _ _) rfl queued

/-! ### The Shed Controller -/

theorem shedOne (hrun : s.phase = .running) (h : P s) : P s.shedOne := by
  unfold State.shedOne
  split
  · exact hm.still (frame_post _ _) rfl h
  · next e found =>
    split
    · exact hm.still (frame_post _ _) rfl (hm.move s e _ _ hrun rfl EntryState.noConfusion h)
    · exact hm.shedOnto s e hrun (List.find?_some (p := fun e => (s.entryState e).energised) found) h

/-- A record of the Shed Controller with the same stack. -/
theorem changeShed (c : Shed) (hc : c.stack = s.shc.stack) (h : P s) : P (s.changeShed c) := by
  have changed : Frame [.stack, .shed] s (s.changeShed c) := (frame_changeShed s c).mono rfl
  exact hm.still (changed.without (by rw [changeShed_eq]; exact hc)) rfl h

theorem setShed (c : Shed) (hc : c.stack = s.shc.stack) (h : P s) : P { s with shc := c } := by
  have changed : Frame [.stack, .shed] s { s with shc := c } := Frame.intro (by rfl)
  exact hm.still (changed.without hc) rfl h

theorem shedFast (hrun : s.phase = .running) (h : P s) : P s.shedFast :=
  hm.changeShed _ rfl (hm.shedOne hrun h)

theorem shedShort (hrun : s.phase = .running) (h : P s) : P s.shedShort := by
  have counted : P s.countShort := by
    unfold State.countShort
    split
    · exact hm.changeShed _ rfl (hm.shedOne hrun h)
    · exact hm.setShed _ rfl h
  unfold State.shedShort
  split
  · exact hm.changeShed _ rfl h
  · exact counted
  · exact counted
  · exact hm.changeShed _ rfl h

theorem shedNeither (h : P s) : P s.shedNeither := by
  unfold State.shedNeither
  split
  · exact hm.changeShed _ rfl h
  · exact hm.changeShed _ rfl h
  · exact h
  · exact h

theorem endRecovery (hrun : s.phase = .running) (h : P s) : P s.endRecovery := by
  unfold State.endRecovery
  split
  · have walked : P (s.shc.stack.reverse.foldl recoverEntry s) := by
      refine Moved.foldl frame_recoverEntry rfl (fun s e hrun h => ?_) _ s hrun h
      unfold recoverEntry
      split
      · exact hm.move s e _ _ hrun rfl EntryState.noConfusion h
      · exact h
    refine hm.still (s := State.unstack _) (touched := [.shed]) ?_ rfl (hm.unstack _ walked)
    dsimp only
    rw [changeShed_eq]
    exact Frame.intro rfl
  · exact h

theorem endRestart (hrun : s.phase = .running) (h : P s) : P s.endRestart := by
  unfold State.endRestart
  split
  · refine hm.still (frame_notice _ _ _ _) rfl ?_
    refine hm.moveAll .waiting .restart rfl EntryState.noConfusion _ hrun ?_
    exact hm.setShed _ rfl h
  · exact h

/-! ### The Rota Player -/

theorem flushSlots (hrun : s.phase = .running) (h : P s) : P s.flushSlots := by
  have unposted : Frame [] s { s with posted := s.posted.filter fun i => !isSlotApplication i } :=
    Frame.intro (by rfl)
  refine Moved.foldl (P := P) (touched := moving) (fun s i => ?_) rfl (fun s i hrun h => ?_) _ _ hrun
    (hm.still unposted rfl h)
  · unfold takeSlotApplication
    split <;> [exact frame_applySlot s _; exact Frame.refl]
  · unfold takeSlotApplication
    split
    · exact hm.applySlot _ hrun h
    · exact h

/-! ### Completion of start-up and writes of settings -/

theorem completeStartUp (hs : s.phase ≠ .running) (h : P s) : P s.completeStartUp := by
  have phase : s.startService.phase = .running := frame_startPresence _ .phase (by simp)
  have ready : Frame [.permit, .regulator, .shed, .saw, .faults] s.startService
      s.startService.startPermit.settleRegulation.startLineLoss.readAuxiliaries := by
    have settled := (frame_startPermit s.startService).andThen (frame_settleRegulation _) rfl rfl
      (c := [.permit, .regulator])
    have timed := settled.andThen (frame_startLineLoss _) rfl rfl (c := [.permit, .regulator, .shed])
    exact timed.andThen (frame_readAuxiliaries _) rfl rfl
  rw [completeStartUp_eq]
  exact Moved.forEntries (fun s e => frame_wantEntry s e .startUp)
    (fun s e hrun h => hm.wantEntry s e .startUp hrun h) _ ((ready .phase (by simp)).trans phase)
    (hm.still ready rfl (hm.service s hs h))

theorem afterAdmissionWrite (i : Nat) (hrun : s.phase = .running) (h : P s) :
    P (s.afterAdmissionWrite i) := by
  have phase (t : State) (k : Fin 4) (ht : t.phase = .running) : (t.expireSlot k).phase = .running :=
    (frame_expireSlot t k .phase (by simp)).trans ht
  unfold State.afterAdmissionWrite
  split
  · have first := phase s 0 hrun
    have second := phase _ 1 first
    exact hm.expireSlot 3 (phase _ 2 second) <| hm.expireSlot 2 second <| hm.expireSlot 1 first <|
      hm.expireSlot 0 hrun h
  · exact hm.endRecovery hrun h
  · exact hm.endRestart hrun h
  · exact hm.expireSawWait hrun h
  · exact hm.still (frame_endDwell s) rfl h
  · exact hm.still (frame_endDeadTime s) rfl h
  · exact h

/-! ### Every step -/

theorem kept : Kept P := by
  refine kept_of_writers hm.reads (fun i s t hi h he => ?_) rfl
  cases i with
  | fullResetAssert x => exact keeps_fullReset h he (.inl ⟨x, rfl⟩) fun ph v _ => hm.reset s ph v
  | fullResetRelease mv b => exact keeps_fullReset h he (.inr ⟨mv, b, rfl⟩) fun ph v _ => hm.reset s ph v
  | settingsLoadEnd =>
    refine keeps_settingsLoadEnd h he fun starting => ?_
    have given : Frame [.faults] s.takeLoad s.takeLoad.loadRaises.giveDemand :=
      (frame_loadRaises _).andThen (frame_giveDemand _) rfl rfl
    have phase : s.takeLoad.loadRaises.giveDemand.phase = .starting :=
      (given .phase (by simp)).trans ((frame_takeLoad s .phase (by simp)).trans starting)
    exact hm.completeStartUp (by rw [phase]; exact Phase.noConfusion)
      (hm.still given rfl (hm.load s starting h))
  | recordAtAdmission r =>
    refine keeps_whenRunning h he fun hrun => ?_
    have given : Frame [] s { s with adu := { s.adu with floor := r.floor } } := Frame.intro (by rfl)
    have phase := frame_arrivals { s with adu := { s.adu with floor := r.floor } } r.wd .phase (by simp)
    exact hm.examine r (Eq.trans phase hrun) (hm.arrivals _ r.wd hrun (hm.still given rfl h))
  | reservationExpiry k => exact keeps_whenRunning h he fun hrun => hm.expireSlot k hrun h
  | writeEntry p b f w m => exact keeps_writeEntry hm.reads rfl hm.write h he
  | fillEntries p b n => exact keeps_fillEntries hm.reads rfl hm.write h he
  | slotApplication a => exact keeps_whenRunning h he fun hrun => hm.applySlot a hrun h
  | lineLossRequest =>
    exact keeps_whenRunning h he fun hrun => Moved.forEntries frame_loseEntry
      (fun s e hrun h => hm.loseEntry s e hrun h) s hrun h
  | sawStoppedReport =>
    refine keeps_whenRunning h he fun hrun => ?_
    split
    · exact h
    · exact hm.move s _ _ _ hrun rfl EntryState.noConfusion h
  | recordAtShed r =>
    refine keeps_whenRunning h he fun hrun => ?_
    split
    · exact hm.shedFast hrun h
    · split
      · exact hm.shedShort hrun h
      · exact hm.shedNeither h
  | recoveryHoldExpiry => exact keeps_whenRunning h he fun hrun => hm.endRecovery hrun h
  | restartHoldExpiry => exact keeps_whenRunning h he fun hrun => hm.endRestart hrun h
  | lineLossTimerExpiry =>
    refine keeps_whenRunning h he fun hrun => ?_
    split
    · refine hm.still (s := s.unstack) (touched := [.shed]) ?_ rfl (hm.unstack s h)
      exact Frame.intro (by rfl)
    · exact h
  | rotaStop p =>
    refine keeps_request hm.reads rfl h he fun hrun => ?_
    dsimp only [State.done, State.rotaStopEntries]
    split
    · have phase := frame_flushSlots s .phase (by simp)
      have idle := hm.still (frame_setRota _ { s.flushSlots.rtp with playing := false, second := none, split := none })
        rfl (hm.flushSlots hrun h)
      dsimp only
      exact hm.moveAll .waiting .rotaStop rfl EntryState.noConfusion _ (Eq.trans phase hrun) idle
    · exact h
  | sawStart p w d =>
    refine keeps_request hm.reads rfl h he fun hrun => ?_
    dsimp only
    split
    · exact h
    · next d _ =>
      split
      · exact h
      split
      · exact h
      split
      · exact h
      split
      · exact h
      · exact hm.sawStarted (max 100 (min 30000 w.toNat)) d hrun h
  | sawWaitExpiry => exact keeps_whenRunning h he fun hrun => hm.expireSawWait hrun h
  | beginSignal =>
    refine keeps_whenRunning h he fun hrun => ?_
    split
    · split
      · exact hm.stop _ hrun h
      · exact hm.still (frame_changeStage_delta s _ _) rfl h
    · exact h
  | stoppingLimitExpiry =>
    refine keeps_whenRunning h he fun hrun => ?_
    split
    · split
      · exact hm.still (frame_enterSawFault s _ _ _) rfl h
      · exact hm.reachOff _ _ hrun h
    · exact h
  | sawEstopChange b =>
    cases he
    split
    · exact h
    · have level : Frame [.saw] s { s with sws := { s.sws with estop := b } } := Frame.intro (by rfl)
      refine keeps_whenRunning (hm.still level rfl h) rfl fun hrun => ?_
      split
      · exact hm.stop _ hrun (hm.still level rfl h)
      · exact hm.still level rfl h
  | sawStop p => exact keeps_request hm.reads rfl h he fun hrun => hm.stop _ hrun h
  | stopFromLoadTable c => exact keeps_whenRunning h he fun hrun => hm.stop _ hrun h
  | clearSawFault p =>
    refine keeps_request hm.reads rfl h he fun hrun => ?_
    dsimp only [State.done]
    split
    · exact h
    split
    · exact h
    split
    · refine hm.returned _ hrun ?_
      exact hm.still (Frame.intro (by rfl) : Frame [.saw, .delta] s _) rfl h
    · exact hm.still (Frame.intro (by rfl) : Frame [.saw, .delta] s _) rfl h
  | presenceTimerExpiry p =>
    refine keeps_whenRunning h he fun hrun => ?_
    split
    · unfold State.goSilent
      have silent : Frame [] s (((s.setPort p { s.port p with present := false, silence := none }).notice
          .portPresence p.number 0).raise .portSilent) :=
        ((frame_setPort s p { s.port p with present := false, silence := none } rfl rfl).trans
          (frame_notice _ _ _ _)).trans (frame_raise _ _)
      dsimp only
      split
      · exact hm.stop _ hrun (hm.still silent rfl h)
      · exact hm.still silent rfl h
    · exact h
  | auxChange k b =>
    cases he
    split
    · exact h
    · have level : Frame [.saw] s { s with sws := { s.sws with aux := s.sws.aux.set k b } } :=
        Frame.intro (by rfl)
      refine keeps_whenRunning (hm.still level rfl h) rfl fun hrun => ?_
      split
      · exact hm.still (frame_completeChangeover _) rfl (hm.still level rfl h)
      · exact hm.uncommandedChange k b hrun (hm.still level rfl h)
  | writeSetting p g i x v =>
    refine keeps_writeSetting hm.reads rfl h he fun hrun =>
      (keeps_writeItem s p _ _ _ _ ?_ ?_ ?_ ?_ ?_ ?_)
    · exact hm.still (frame_writeRegulation s _ _ _) rfl h
    · exact hm.still (frame_writeSupervision s _ _) rfl h
    · rw [writeAdmission_state]
      have stored : Frame [.settings] s (s.withAdmission (s.settings.admission.write i.toNat v.toInt).1) :=
        Frame.intro (by rfl)
      exact hm.afterAdmissionWrite _ hrun (hm.still stored rfl h)
    · exact fun e => keeps_writeLoadDefault hm.write s p e _ _ hrun h
    · exact hm.still (frame_writeSlotPeriod s _) rfl h
    · exact hm.still (frame_writeDevice s p _ _ _) rfl h
  | _ => nomatch hi

end Moved

end Sys2Proof.Machine
end

section
/-! PROOFS. The law of the relays: an entry's relay and wanted field go with its state, and every entry is OFF
before service. -/

namespace Sys2Proof.Machine

/-! ### Relay and wanted field of one entry -/

/-- Relay and wanted field of an entry are those of its state (R73). -/
def State.Tied (s : State) (e : Entry) : Prop :=
  s.ltc.relays.get e = ((s.entryState e).energised && decide (e ≠ sawEntry))
    ∧ ((s.load e).fields.wanted = true ↔ s.entryState e ≠ .off)

theorem loadLaw_iff (s : State) :
    LoadLaw s ↔ (∀ e, s.Tied e) ∧ (s.phase ≠ .running → ∀ e, s.entryState e = .off) := Iff.rfl

theorem loadLaw_running {s : State} (hrun : s.phase = .running) (h : ∀ e, s.Tied e) : LoadLaw s :=
  ⟨h, fun hs => absurd hrun hs⟩

theorem loadLaw_reads : Reads LoadLaw (.phase :: moving) := fun s t h hs => by
  have hphase : t.phase = s.phase := h .phase (by simp)
  obtain ⟨hstate, hwanted⟩ : t.entryState = s.entryState ∧ t.wanteds = s.wanteds := h .entries (by simp)
  have hrelays : t.ltc.relays = s.ltc.relays := h .relays (by simp)
  obtain ⟨tied, before⟩ := hs
  unfold LoadLaw
  rw [hphase, hstate, hrelays]
  refine ⟨fun e => ?_, before⟩
  have wanted : (t.load e).fields.wanted = (s.load e).fields.wanted := congrFun hwanted e
  rw [wanted]
  exact tied e

/-- A move ties the entry moved, and leaves the others. -/
theorem tied_moveEntry (s : State) (e : Entry) (d : EntryState) (c : MoveCause) (x : Entry)
    (h : x ≠ e → s.Tied x) : (s.moveEntry e d c).Tied x := by
  unfold State.Tied
  by_cases hx : x = e
  · subst hx
    rw [relay_moveEntry_same, entryState_moveEntry_same, load_moveEntry_same]
    exact ⟨rfl, decide_eq_true_iff⟩
  · rw [relay_moveEntry_other s d c hx, entryState_moveEntry_other s d c hx,
      load_moveEntry_other s d c hx]
    exact h hx

theorem loadLaw_moveEntry (s : State) (e : Entry) (d : EntryState) (c : MoveCause)
    (hrun : s.phase = .running) (h : LoadLaw s) : LoadLaw (s.moveEntry e d c) :=
  loadLaw_running hrun fun x => tied_moveEntry s e d c x fun _ => h.1 x

/-! ### Writes of an entry (R83, R86) -/

/-- Fields stored in an entry leave every other tied. -/
theorem tied_storeFields (s : State) (e : Entry) (f : Fields) (x : Entry) (hx : x ≠ e) (h : s.Tied x) :
    (s.storeFields e f).Tied x := by
  have load : (s.storeFields e f).load x = s.load x := load_setLoad_other s _ hx
  unfold State.Tied State.entryState
  rw [load]
  exact h

/-- The move of a write ties the entry written: it moves it, or its wanted field is what it was. -/
theorem tied_writeMove (s : State) (e : Entry) (f : Fields) (h : ∀ x, s.Tied x) (x : Entry) :
    ((s.storeFields e f).writeMove e (s.load e).fields).Tied x := by
  have others (x : Entry) (hx : x ≠ e) : (s.storeFields e f).Tied x := tied_storeFields s e f x hx (h x)
  have moved (d : EntryState) (c : MoveCause) : ((s.storeFields e f).moveEntry e d c).Tied x :=
    tied_moveEntry _ e d c x (others x)
  have load : (s.storeFields e f).load e = { s.load e with fields := f } := load_setLoad_same s e _
  have state : (s.storeFields e f).entryState e = s.entryState e := (congrArg Load.state load :)
  obtain ⟨relay, wanted⟩ := h e
  have stays (hw : f.wanted = (s.load e).fields.wanted) : (s.storeFields e f).Tied x := by
    by_cases hx : x = e
    · subst hx
      unfold State.Tied
      rw [state, load]
      exact ⟨relay, by rw [hw]; exact wanted⟩
    · exact others x hx
  unfold State.writeMove State.wantEntry
  rw [load]
  dsimp only
  split
  · split
    · exact moved _ _
    · exact moved _ _
  · next notSet =>
    split
    · next cleared =>
      split
      · next off => simp_all
      · exact moved _ _
    · next notCleared =>
      split
      · exact moved _ _
      · split
        · exact moved _ _
        · refine stays ?_
          cases hf : f.wanted <;> cases ho : (s.load e).fields.wanted <;> simp_all

theorem loadLaw_writeFields (s : State) (e : Entry) (m : FieldMask) (new : Fields)
    (hrun : s.phase = .running) (h : LoadLaw s) : LoadLaw (s.writeFields e m new).1 := by
  have phase := frame_writeFields s e m new .phase (by simp)
  refine loadLaw_running (phase.trans hrun) fun x => ?_
  unfold State.writeFields State.writeConsequences
  dsimp only
  split
  · exact h.1 x
  · split
    · exact tied_writeMove s e _ h.1 x
    · exact tied_writeMove s e _ h.1 x

/-! ### The operations that give an entry a place -/

theorem loadLaw_endReservation (s : State) (r : Reservation) (c : MoveCause) (hrun : s.phase = .running)
    (h : LoadLaw s) : LoadLaw (s.endReservation r c) := by
  unfold State.endReservation
  dsimp only
  split
  · exact loadLaw_moveEntry _ _ _ _ hrun h
  · exact h

theorem loadLaw_granted (s : State) (e : Entry) (k : Fin 4) (r : RegRecord) (hrun : s.phase = .running)
    (h : LoadLaw s) : LoadLaw (s.granted e k r) :=
  loadLaw_moveEntry _ e (.reserved k) .grant hrun
    (loadLaw_reads.frame (frame_markNotSeen s e false) rfl h)

theorem loadLaw_displaceOne (short : Int) (acc : State × Nat) (e : Entry) (hrun : acc.1.phase = .running)
    (h : LoadLaw acc.1) : LoadLaw (displaceOne short acc e).1 := by
  unfold displaceOne
  dsimp only
  split
  · exact loadLaw_moveEntry _ e .displaced .displaced hrun h
  · exact h

theorem loadLaw_takeLoad (s : State) (starting : s.phase = .starting) (h : LoadLaw s) :
    LoadLaw s.takeLoad := by
  obtain ⟨tied, before⟩ := h
  have off := before (by rw [starting]; exact Phase.noConfusion)
  have loaded (e : Entry) : s.takeLoad.entryState e = .off :=
    congrArg Load.state (load_takeLoad s e)
  refine ⟨fun e => ?_, fun _ => loaded⟩
  rw [loaded e, load_takeLoad]
  obtain ⟨relay, -⟩ := tied e
  rw [off e] at relay
  exact ⟨relay, fun hw => Bool.noConfusion hw, fun hs => absurd rfl hs⟩

theorem loadLaw_enterPhase (s : State) (ph : Phase) (v : Supply) : LoadLaw (s.enterPhase ph v) := by
  have off (e : Entry) : (s.enterPhase ph v).entryState e = .off :=
    congrArg Load.state (load_enterPhase s ph v e)
  refine ⟨fun e => ?_, fun _ => off⟩
  rw [off e, load_enterPhase]
  refine ⟨?_, fun hw => Bool.noConfusion hw, fun hs => absurd rfl hs⟩
  show (Vector.replicate 16 false).get e = false
  simp [Vector.get_eq_getElem]

theorem loadLaw_moved : Moved LoadLaw where
  reads := loadLaw_reads
  reset := loadLaw_enterPhase
  load := loadLaw_takeLoad
  service s _ h :=
    loadLaw_running (frame_startPresence _ .phase (by simp)) fun e =>
      (loadLaw_reads.frame (frame_startPresence { s with phase := .running, clockMs := 0, clockUs := 0 }) rfl
        (loadLaw_running rfl h.1)).1 e
  move s e d c hrun _ _ h := loadLaw_moveEntry s e d c hrun h
  write := loadLaw_writeFields
  ended s r c hrun _ h := loadLaw_endReservation s r c hrun h
  arrivals s wd hrun h :=
    Moved.foldl frame_arrive rfl
      (fun s r hrun h => loadLaw_reads.frame (frame_notice _ _ _ _) rfl (loadLaw_endReservation s r _ hrun h))
      _ s hrun h
  granted s e k r hrun _ _ h := loadLaw_granted s e k r hrun h
  displaceOne := loadLaw_displaceOne
  returned s hrun h := by
    have walked := Moved.foldl (P := LoadLaw)
      (f := fun s e => if s.entryState e = .displaced then s.moveEntry e .waiting .sawReturn else s)
      (touched := moving)
      (fun s e => Frame.ite (fun _ => frame_moveEntry s e _ _ rfl) (fun _ => Frame.refl)) rfl
      (fun s e hrun h => by split <;> [exact loadLaw_moveEntry s e _ _ hrun h; exact h])
      s.adu.displaced s hrun h
    exact walked
  shedOnto s e hrun _ h := loadLaw_moveEntry s e .shedUnderfrequency .shed hrun h
  unstack _ h := h

/-- Settles O4: a move sets relay and wanted field with the state, and a write that changes the wanted field
moves the entry. -/
theorem relayLawKept : Obligations.RelayLawKept := loadLaw_moved.kept

end Sys2Proof.Machine
end

section
/-! PROOFS. The law of the Admission Unit and the shed stack: reservation table, queue, displaced list and
stack hold exactly the entries of their states. -/

namespace Sys2Proof.Machine

/-! ### Places and the entry states they go with -/

/-- A table holds the entries in RESERVED, each with its slot, in slot order. -/
def TableOf (st : Entry → EntryState) (t : List Reservation) : Prop :=
  (∀ (e : Entry) (k : Fin 4), st e = .reserved k ↔ ∃ r ∈ t, r.entry = e ∧ r.slot = k)
    ∧ (t.map (·.slot)).Pairwise (· < ·)

/-- A list holds the entries in one state, each once. -/
def ListOf (st : Entry → EntryState) (d : EntryState) (l : List Entry) : Prop :=
  (∀ e : Entry, st e = d ↔ e ∈ l) ∧ l.Nodup

/-- A stack holds entries SHED for UNDERFREQUENCY only, each once. -/
def StackOf (st : Entry → EntryState) (l : List Entry) : Prop :=
  (∀ e ∈ l, st e = .shedUnderfrequency) ∧ l.Nodup

/-- The places of a state go with its entries. -/
structure State.Placed (s : State) : Prop where
  table : TableOf s.entryState s.adu.table
  queue : ListOf s.entryState .waiting s.adu.queue
  displaced : ListOf s.entryState .displaced s.adu.displaced
  stack : StackOf s.entryState s.shc.stack

theorem admissionLaw_iff (s : State) :
    AdmissionLaw s ↔
      s.Placed ∧ (s.phase ≠ .running → s.adu.table = [] ∧ s.adu.queue = [] ∧ s.adu.displaced = []
        ∧ s.shc.stack = []) :=
  ⟨fun ⟨t, ts, q, qn, d, dn, k, kn, before⟩ => ⟨⟨⟨t, ts⟩, ⟨q, qn⟩, ⟨d, dn⟩, ⟨k, kn⟩⟩, before⟩,
    fun ⟨⟨⟨t, ts⟩, ⟨q, qn⟩, ⟨d, dn⟩, ⟨k, kn⟩⟩, before⟩ => ⟨t, ts, q, qn, d, dn, k, kn, before⟩⟩

theorem admissionLaw_running {s : State} (hrun : s.phase = .running) (h : s.Placed) : AdmissionLaw s :=
  (admissionLaw_iff s).mpr ⟨h, fun hs => absurd hrun hs⟩

theorem admissionLaw_placed {s : State} (h : AdmissionLaw s) : s.Placed := ((admissionLaw_iff s).mp h).1

/-- The places of a state, in terms of what they read. -/
theorem State.Placed.of_eq {s t : State} (h : s.Placed) (hs : t.entryState = s.entryState)
    (htable : t.adu.table = s.adu.table) (hqueue : t.adu.queue = s.adu.queue)
    (hdisplaced : t.adu.displaced = s.adu.displaced) (hstack : t.shc.stack = s.shc.stack) : t.Placed := by
  obtain ⟨table, queue, displaced, stack⟩ := h
  constructor
  · rw [hs, htable]; exact table
  · rw [hs, hqueue]; exact queue
  · rw [hs, hdisplaced]; exact displaced
  · rw [hs, hstack]; exact stack

theorem admissionLaw_reads : Reads AdmissionLaw (.phase :: moving) := fun s t h hs => by
  have hphase : t.phase = s.phase := h .phase (by simp)
  obtain ⟨hstate, -⟩ : t.entryState = s.entryState ∧ t.wanteds = s.wanteds := h .entries (by simp)
  obtain ⟨htable, hqueue, hdisplaced⟩ := show t.adu.table = s.adu.table ∧ t.adu.queue = s.adu.queue
    ∧ t.adu.displaced = s.adu.displaced from h .places (by simp)
  have hstack : t.shc.stack = s.shc.stack := h .stack (by simp)
  obtain ⟨placed, before⟩ := (admissionLaw_iff s).mp hs
  refine (admissionLaw_iff t).mpr ⟨placed.of_eq hstate htable hqueue hdisplaced hstack, ?_⟩
  rw [hphase, htable, hqueue, hdisplaced, hstack]
  exact before

/-! ### One entry put into another state -/

section
variable {st : Entry → EntryState} {t : List Reservation} {l : List Entry} {d : EntryState}

/-- Two records of one entry are one record. -/
theorem TableOf.entry_inj (h : TableOf st t) {r x : Reservation} (hr : r ∈ t) (hx : x ∈ t)
    (he : r.entry = x.entry) : r = x := by
  obtain ⟨states, slots⟩ := h
  have hslot : r.slot = x.slot := by
    have hr' := (states r.entry r.slot).mpr ⟨r, hr, rfl, rfl⟩
    have hx' := (states x.entry x.slot).mpr ⟨x, hx, rfl, rfl⟩
    rw [he, hx'] at hr'
    exact (EntryState.reserved.inj hr').symm
  exact List.inj_on_of_nodup_map (slots.imp fun h => ne_of_lt h) hr hx hslot

/-- An entry that is not RESERVED has no record. -/
theorem TableOf.filter_of_not (h : TableOf st t) {e : Entry} (he : (st e).isReserved = false) :
    t.filter (fun r => r.entry ≠ e) = t := by
  refine List.filter_eq_self.mpr fun r hr => decide_eq_true fun hre => ?_
  rw [(h.1 e r.slot).mpr ⟨r, hr, hre, rfl⟩] at he
  exact Bool.noConfusion he

theorem TableOf.leave (h : TableOf st t) (e : Entry) (hd : d.isReserved = false) :
    TableOf (Function.update st e d) (t.filter fun r => r.entry ≠ e) := by
  obtain ⟨states, slots⟩ := h
  refine ⟨fun x k => ?_, slots.sublist (List.filter_sublist.map _)⟩
  by_cases hx : x = e
  · subst hx
    rw [Function.update_self]
    constructor
    · rintro rfl; exact Bool.noConfusion hd
    · rintro ⟨r, hr, hre, -⟩
      exact absurd hre (of_decide_eq_true (List.mem_filter.mp hr).2)
  · rw [Function.update_of_ne hx, states x k]
    constructor
    · rintro ⟨r, hr, rfl, rfl⟩; exact ⟨r, List.mem_filter.mpr ⟨hr, decide_eq_true hx⟩, rfl, rfl⟩
    · rintro ⟨r, hr, h⟩; exact ⟨r, (List.mem_filter.mp hr).1, h⟩

/-- A record placed in a slot that no other has keeps the slots rising. -/
theorem pairwise_insertRecord (r : Reservation) (h : (t.map (·.slot)).Pairwise (· < ·))
    (hr : ∀ x ∈ t, x.slot ≠ r.slot) : ((insertRecord r t).map (·.slot)).Pairwise (· < ·) := by
  induction t with
  | nil => exact List.pairwise_singleton ..
  | cons y ys ih =>
    obtain ⟨hy, hys⟩ := List.pairwise_cons.mp h
    unfold insertRecord
    split
    · next le =>
      have lt : r.slot < y.slot := lt_of_le_of_ne le (Ne.symm (hr y (List.mem_cons_self ..)))
      exact List.pairwise_cons.mpr ⟨fun k hk => (List.mem_cons.mp hk).elim (fun e => e ▸ lt)
        (fun hk => lt.trans (hy k hk)), h⟩
    · next gt =>
      refine List.pairwise_cons.mpr ⟨fun k hk => ?_, ih hys fun x hx => hr x (List.mem_cons_of_mem _ hx)⟩
      obtain ⟨x, hx, rfl⟩ := List.mem_map.mp hk
      rcases (mem_insertRecord r x ys).mp hx with rfl | hx
      · exact not_le.mp gt
      · exact hy _ (List.mem_map_of_mem hx)

theorem TableOf.enter (h : TableOf st t) (r : Reservation) (hr : ∀ x ∈ t, x.slot ≠ r.slot) :
    TableOf (Function.update st r.entry (.reserved r.slot))
      (insertRecord r (t.filter fun x => x.entry ≠ r.entry)) := by
  have others (x : Reservation) (hx : x ∈ t.filter fun x => x.entry ≠ r.entry) : x ∈ t ∧ x.entry ≠ r.entry :=
    ⟨(List.mem_filter.mp hx).1, of_decide_eq_true (List.mem_filter.mp hx).2⟩
  obtain ⟨states, slots⟩ := h
  refine ⟨fun e k => ?_, pairwise_insertRecord r (slots.sublist (List.filter_sublist.map _))
    fun x hx => hr x (others x hx).1⟩
  by_cases he : e = r.entry
  · subst he
    rw [Function.update_self]
    constructor
    · intro hk
      exact ⟨r, (mem_insertRecord ..).mpr (.inl rfl), rfl, EntryState.reserved.inj hk⟩
    · rintro ⟨x, hx, hxe, rfl⟩
      rcases (mem_insertRecord ..).mp hx with rfl | hx
      · rfl
      · exact absurd hxe (others x hx).2
  · rw [Function.update_of_ne he, states e k]
    constructor
    · rintro ⟨x, hx, rfl, rfl⟩
      exact ⟨x, (mem_insertRecord ..).mpr (.inr (List.mem_filter.mpr ⟨hx, decide_eq_true he⟩)), rfl, rfl⟩
    · rintro ⟨x, hx, rfl, rfl⟩
      rcases (mem_insertRecord ..).mp hx with rfl | hx
      · exact absurd rfl he
      · exact ⟨x, (others x hx).1, rfl, rfl⟩

theorem ListOf.leave {x : EntryState} (h : ListOf st x l) (e : Entry) (hd : d ≠ x) :
    ListOf (Function.update st e d) x (l.erase e) := by
  obtain ⟨states, nodup⟩ := h
  refine ⟨fun y => ?_, nodup.erase e⟩
  rw [nodup.mem_erase_iff]
  by_cases hy : y = e
  · subst hy; simp [hd]
  · rw [Function.update_of_ne hy, states y]; simp [hy]

theorem ListOf.enter (h : ListOf st d l) (e : Entry) {l' : List Entry} (hn : l'.Nodup)
    (hm : ∀ y, y ∈ l' ↔ y = e ∨ y ∈ l.erase e) : ListOf (Function.update st e d) d l' := by
  obtain ⟨states, nodup⟩ := h
  refine ⟨fun y => ?_, hn⟩
  rw [hm, nodup.mem_erase_iff]
  by_cases hy : y = e
  · subst hy; simp
  · rw [Function.update_of_ne hy, states y]; simp [hy]

theorem StackOf.leave (h : StackOf st l) (e : Entry) (d : EntryState) :
    StackOf (Function.update st e d) (l.erase e) := by
  obtain ⟨states, nodup⟩ := h
  refine ⟨fun y hy => ?_, nodup.erase e⟩
  obtain ⟨hne, hm⟩ := nodup.mem_erase_iff.mp hy
  rw [Function.update_of_ne hne, states y hm]

theorem nodup_append_erase (h : l.Nodup) (e : Entry) : (l.erase e ++ [e]).Nodup :=
  List.nodup_append.mpr ⟨h.erase e, List.nodup_singleton e, fun a ha b hb => by
    cases List.mem_singleton.mp hb
    exact fun hab => h.not_mem_erase (hab ▸ ha)⟩

theorem StackOf.push (h : StackOf st l) (e : Entry) :
    StackOf (Function.update st e .shedUnderfrequency) (l.erase e ++ [e]) := by
  obtain ⟨states, -⟩ := h.leave e .shedUnderfrequency
  refine ⟨fun y hy => ?_, nodup_append_erase h.2 e⟩
  rcases List.mem_append.mp hy with hy | hy
  · exact states y hy
  · rw [List.mem_singleton.mp hy, Function.update_self]

end

/-! ### Moves (section 5.2) -/

theorem entryState_moveEntry (s : State) (e : Entry) (d : EntryState) (c : MoveCause) :
    (s.moveEntry e d c).entryState = Function.update s.entryState e d := by
  funext x
  by_cases hx : x = e
  · subst hx; rw [entryState_moveEntry_same, Function.update_self]
  · rw [entryState_moveEntry_other s d c hx, Function.update_of_ne hx]

theorem nodup_insertAfterLast (test : Entry → Bool) (e : Entry) (l : List Entry) (h : l.Nodup)
    (he : e ∉ l) : (insertAfterLast test e l).Nodup := by
  induction l with
  | nil => exact List.nodup_singleton e
  | cons y ys ih =>
    obtain ⟨hy, hys⟩ := List.nodup_cons.mp h
    obtain ⟨hne, hes⟩ := not_or.mp (List.mem_cons.not.mp he)
    unfold insertAfterLast
    split
    · refine List.nodup_cons.mpr ⟨fun hm => ?_, ih hys hes⟩
      exact ((mem_insertAfterLast ..).mp hm).elim (fun h => hne h.symm) hy
    · exact List.nodup_cons.mpr ⟨he, h⟩

theorem nodup_queueWith (s : State) (l : List Entry) (e : Entry) (b : Bool) (h : l.Nodup) :
    (s.queueWith (l.erase e) e b).Nodup := by
  unfold State.queueWith
  split
  · exact nodup_insertAfterLast _ e _ (h.erase e) h.not_mem_erase
  · exact nodup_append_erase h e

/-- Where the entry of a move goes, it leaves every place that held it, and to WAITING it is queued. -/
theorem places_moveEntry (s : State) (e : Entry) (d : EntryState) (c : MoveCause) (h : s.Placed) :
    (s.moveEntry e d c).adu.table = s.adu.table.filter (fun r => r.entry ≠ e)
      ∧ (s.moveEntry e d c).adu.queue =
          (if d = .waiting then s.queueWith (s.adu.queue.erase e) e (s.load e).fields.essential
            else s.adu.queue.erase e)
      ∧ (s.moveEntry e d c).adu.displaced = s.adu.displaced.erase e
      ∧ (s.moveEntry e d c).shc.stack = s.shc.stack.erase e := by
  obtain ⟨table, queue, displaced, stack⟩ := h
  have noRecord (he : (s.entryState e).isReserved = false) := table.filter_of_not he
  have unqueued (he : s.entryState e ≠ .waiting) : s.adu.queue.erase e = s.adu.queue :=
    List.erase_of_not_mem fun hm => he ((queue.1 e).mpr hm)
  have undisplaced (he : s.entryState e ≠ .displaced) : s.adu.displaced.erase e = s.adu.displaced :=
    List.erase_of_not_mem fun hm => he ((displaced.1 e).mpr hm)
  have hadu : (s.moveEntry e d c).adu.table = s.adu.table.filter (fun r => r.entry ≠ e)
      ∧ (s.moveEntry e d c).adu.queue =
          (if d = .waiting then s.queueWith (s.adu.queue.erase e) e (s.load e).fields.essential
            else s.adu.queue.erase e)
      ∧ (s.moveEntry e d c).adu.displaced = s.adu.displaced.erase e := by
    rw [State.moveEntry_adu]
    unfold State.admissionAfterMove
    cases hs : s.entryState e with
    | waiting =>
      rw [noRecord (by rw [hs]; rfl), undisplaced (by rw [hs]; exact EntryState.noConfusion)]
      cases d <;> exact ⟨rfl, rfl, rfl⟩
    | reserved k =>
      rw [unqueued (by rw [hs]; exact EntryState.noConfusion),
        undisplaced (by rw [hs]; exact EntryState.noConfusion)]
      cases d <;> exact ⟨rfl, rfl, rfl⟩
    | displaced =>
      rw [noRecord (by rw [hs]; rfl), unqueued (by rw [hs]; exact EntryState.noConfusion)]
      cases d <;> exact ⟨rfl, rfl, rfl⟩
    | _ =>
      rw [noRecord (by rw [hs]; rfl), unqueued (by rw [hs]; exact EntryState.noConfusion),
        undisplaced (by rw [hs]; exact EntryState.noConfusion)]
      cases d <;> exact ⟨rfl, rfl, rfl⟩
  obtain ⟨htable, hqueue, hdisplaced⟩ := hadu
  refine ⟨htable, hqueue, hdisplaced, ?_⟩
  rw [stack_moveEntry]
  split
  · rfl
  · next hs => exact (List.erase_of_not_mem fun hm => hs (stack.1 e hm)).symm

/-- A move to a state without a place of its own, or to WAITING, keeps places and states together. -/
theorem placed_moveEntry (s : State) (e : Entry) (d : EntryState) (c : MoveCause)
    (hr : d.isReserved = false) (hd : d ≠ .displaced) (h : s.Placed) : (s.moveEntry e d c).Placed := by
  obtain ⟨htable, hqueue, hdisplaced, hstack⟩ := places_moveEntry s e d c h
  constructor
  · rw [entryState_moveEntry, htable]; exact h.table.leave e hr
  · rw [entryState_moveEntry, hqueue]
    split
    · next hw =>
      subst hw
      exact h.queue.enter e (nodup_queueWith s _ e _ h.queue.2) fun y => mem_queueWith s _ e y _
    · next hw => exact h.queue.leave e hw
  · rw [entryState_moveEntry, hdisplaced]; exact h.displaced.leave e hd
  · rw [entryState_moveEntry, hstack]; exact h.stack.leave e d

/-! ### Writes of an entry (R83, R86) -/

theorem entryState_storeFields (s : State) (e : Entry) (f : Fields) :
    (s.storeFields e f).entryState = s.entryState := by
  funext x
  unfold State.entryState State.storeFields
  by_cases hx : x = e
  · subst hx; rw [load_setLoad_same]
  · rw [load_setLoad_other s _ hx]

theorem placed_writeMove (s : State) (e : Entry) (old : Fields) (h : s.Placed) : (s.writeMove e old).Placed := by
  have moved (d : EntryState) (c : MoveCause) (hr : d.isReserved = false) (hd : d ≠ .displaced) :=
    placed_moveEntry s e d c hr hd h
  unfold State.writeMove State.wantEntry
  dsimp only
  split_ifs
  · exact moved _ _ rfl EntryState.noConfusion
  · exact moved _ _ rfl EntryState.noConfusion
  · exact h
  · exact moved _ _ rfl EntryState.noConfusion
  · exact moved _ _ rfl EntryState.noConfusion
  · exact moved _ _ rfl EntryState.noConfusion
  · exact h

theorem placed_requeue (s : State) (e : Entry) (hw : s.entryState e = .waiting) (h : s.Placed) :
    (s.requeue e).Placed := by
  obtain ⟨table, queue, displaced, stack⟩ := h
  refine ⟨table, ?_, displaced, stack⟩
  have entered := queue.enter e (nodup_queueWith s _ e (s.load e).fields.essential queue.2)
    fun y => mem_queueWith s _ e y _
  rwa [← hw, Function.update_eq_self, hw] at entered

theorem placed_writeFields (s : State) (e : Entry) (m : FieldMask) (new : Fields) (h : s.Placed) :
    (s.writeFields e m new).1.Placed := by
  unfold State.writeFields State.writeConsequences
  dsimp only
  split
  · exact h
  · have stored : (s.storeFields e (mergeFields m (s.load e).fields new)).Placed :=
      h.of_eq (entryState_storeFields s e _) rfl rfl rfl rfl
    have moved := placed_writeMove _ e (s.load e).fields stored
    split
    · next hw => exact placed_requeue _ e hw.2 moved
    · exact moved

/-! ### The operations that give an entry a place -/

/-- The reservation table replaced. -/
def State.withTable (s : State) (t : List Reservation) : State := { s with adu := { s.adu with table := t } }

/-- An entry moved out of RESERVED takes its records from whatever table is held. -/
theorem moveEntry_withTable (s : State) (t : List Reservation) {e : Entry} {k : Fin 4} (c : MoveCause)
    (hs : s.entryState e = .reserved k) :
    (s.withTable t).moveEntry e .on c =
      (s.moveEntry e .on c).withTable (t.filter fun r => r.entry ≠ e) := by
  have hs' : (s.withTable t).entryState e = .reserved k := hs
  unfold State.moveEntry State.admissionAfterMove
  rw [hs, hs']
  rfl

/-- The end of a record of the table is the move of its entry to ON. -/
theorem endReservation_eq (s : State) (r : Reservation) (c : MoveCause) (h : s.Placed)
    (hr : r ∈ s.adu.table) : s.endReservation r c = s.moveEntry r.entry .on c := by
  have hs : s.entryState r.entry = .reserved r.slot := (h.table.1 r.entry r.slot).mpr ⟨r, hr, rfl, rfl⟩
  have same : (s.adu.table.filter fun x => x.slot ≠ r.slot).filter (fun x => x.entry ≠ r.entry)
      = s.adu.table.filter fun x => x.entry ≠ r.entry := by
    rw [List.filter_filter]
    refine List.filter_congr fun x hx => ?_
    by_cases he : x.entry = r.entry
    · simp [he]
    · have hslot : x.slot ≠ r.slot := fun hk => by
        have hx' := (h.table.1 x.entry x.slot).mpr ⟨x, hx, rfl, rfl⟩
        exact he (congrArg Reservation.entry
          (List.inj_on_of_nodup_map (h.table.2.imp fun h => ne_of_lt h) hx hr hk))
      simp [he, hslot]
  have ended : s.endReservation r c =
      (s.withTable (s.adu.table.filter fun x => x.slot ≠ r.slot)).moveEntry r.entry .on c :=
    if_pos (show (s.entryState r.entry).isReserved = true by rw [hs]; rfl)
  rw [ended, moveEntry_withTable s _ c hs, same, ← (places_moveEntry s r.entry .on c h).1]
  rfl

theorem placed_endReservation (s : State) (r : Reservation) (c : MoveCause) (h : s.Placed)
    (hr : r ∈ s.adu.table) : (s.endReservation r c).Placed := by
  rw [endReservation_eq s r c h hr]
  exact placed_moveEntry s r.entry .on c rfl EntryState.noConfusion h

/-- Releases of records of the table, each of them there until its turn. -/
theorem placed_arrive (l : List Reservation) (hn : l.Nodup) (s : State) (hl : ∀ r ∈ l, r ∈ s.adu.table)
    (h : s.Placed) : (l.foldl State.arrive s).Placed := by
  induction l generalizing s with
  | nil => exact h
  | cons r rs ih =>
    obtain ⟨hr, hrs⟩ := List.nodup_cons.mp hn
    have held := hl r (List.mem_cons_self ..)
    have table : (s.arrive r).adu.table = s.adu.table.filter fun x => x.entry ≠ r.entry := by
      show (s.endReservation r .arrived).adu.table = _
      rw [endReservation_eq s r _ h held]
      exact (places_moveEntry s r.entry .on .arrived h).1
    refine ih hrs _ (fun x hx => ?_) ((placed_endReservation s r .arrived h held).of_eq rfl rfl rfl rfl rfl)
    have hx' := hl x (List.mem_cons_of_mem _ hx)
    rw [table]
    refine List.mem_filter.mpr ⟨hx', decide_eq_true fun he => hr ?_⟩
    rwa [← h.table.entry_inj hx' held he]

theorem placed_arrivals (s : State) (wd : Nat) (h : s.Placed) : (s.arrivals wd).Placed := by
  have nodup : s.adu.table.Nodup := List.Nodup.of_map _ (h.table.2.imp fun h => ne_of_lt h)
  exact placed_arrive _ (nodup.filter _) s (fun r hr => (List.mem_filter.mp hr).1) h

/-- No record of the table has the free slot (R55). -/
theorem freeSlot_free {t : List Reservation} {k : Fin 4} (h : freeSlot t = some k) :
    ∀ r ∈ t, r.slot ≠ k := by
  have free := List.find?_some h
  intro r hr hk
  simp only [Bool.not_eq_true', List.any_eq_false] at free
  exact free r hr (by simp [hk])

theorem placed_granted (s : State) (e : Entry) (k : Fin 4) (r : RegRecord)
    (hk : freeSlot s.adu.table = some k) (h : s.Placed) : (s.granted e k r).Placed := by
  have seen : (s.setLoad e { s.load e with notSeen := false }).entryState = s.entryState :=
    (frame_markNotSeen s e false .entries (by simp)).1
  have marked : (s.setLoad e { s.load e with notSeen := false }).Placed :=
    h.of_eq seen rfl rfl rfl rfl
  obtain ⟨htable, hqueue, hdisplaced, hstack⟩ :=
    places_moveEntry _ e (.reserved k) .grant marked
  have hstate := entryState_moveEntry (s.setLoad e { s.load e with notSeen := false }) e (.reserved k) .grant
  constructor
  · refine Eq.subst (motive := fun st => TableOf st _) hstate.symm ?_
    show TableOf _ (insertRecord (s.recordFor e k r) _)
    rw [htable]
    exact marked.table.enter (s.recordFor e k r) (freeSlot_free hk)
  · refine Eq.subst (motive := fun st => ListOf st _ _) hstate.symm ?_
    refine Eq.subst (motive := fun l => ListOf _ _ l) hqueue.symm ?_
    exact marked.queue.leave e EntryState.noConfusion
  · refine Eq.subst (motive := fun st => ListOf st _ _) hstate.symm ?_
    refine Eq.subst (motive := fun l => ListOf _ _ l) hdisplaced.symm ?_
    exact marked.displaced.leave e EntryState.noConfusion
  · refine Eq.subst (motive := fun st => StackOf st _) hstate.symm ?_
    refine Eq.subst (motive := fun l => StackOf _ l) hstack.symm ?_
    exact marked.stack.leave e _

theorem placed_displaceOne (short : Int) (acc : State × Nat) (e : Entry) (h : acc.1.Placed) :
    (displaceOne short acc e).1.Placed := by
  unfold displaceOne
  dsimp only
  split
  · obtain ⟨htable, hqueue, hdisplaced, hstack⟩ := places_moveEntry acc.1 e .displaced .displaced h
    have hstate := entryState_moveEntry acc.1 e .displaced .displaced
    constructor
    · show TableOf (acc.1.moveEntry e .displaced .displaced).entryState
        (acc.1.moveEntry e .displaced .displaced).adu.table
      rw [hstate, htable]
      exact h.table.leave e rfl
    · show ListOf (acc.1.moveEntry e .displaced .displaced).entryState _
        (acc.1.moveEntry e .displaced .displaced).adu.queue
      rw [hstate, hqueue]
      exact h.queue.leave e EntryState.noConfusion
    · show ListOf (acc.1.moveEntry e .displaced .displaced).entryState _
        ((acc.1.moveEntry e .displaced .displaced).adu.displaced ++ [e])
      rw [hstate, hdisplaced]
      exact h.displaced.enter e (nodup_append_erase h.displaced.2 e) fun y => by
        simp [or_comm]
    · show StackOf (acc.1.moveEntry e .displaced .displaced).entryState
        (acc.1.moveEntry e .displaced .displaced).shc.stack
      rw [hstate, hstack]
      exact h.stack.leave e _
  · exact h

theorem placed_shedOnto (s : State) (e : Entry) (h : s.Placed) : (s.shedOnto e).Placed := by
  obtain ⟨htable, hqueue, hdisplaced, hstack⟩ := places_moveEntry s e .shedUnderfrequency .shed h
  have hstate := entryState_moveEntry s e .shedUnderfrequency .shed
  constructor
  · show TableOf (s.moveEntry e .shedUnderfrequency .shed).entryState
      (s.moveEntry e .shedUnderfrequency .shed).adu.table
    rw [hstate, htable]
    exact h.table.leave e rfl
  · show ListOf (s.moveEntry e .shedUnderfrequency .shed).entryState _
      (s.moveEntry e .shedUnderfrequency .shed).adu.queue
    rw [hstate, hqueue]
    exact h.queue.leave e EntryState.noConfusion
  · show ListOf (s.moveEntry e .shedUnderfrequency .shed).entryState _
      (s.moveEntry e .shedUnderfrequency .shed).adu.displaced
    rw [hstate, hdisplaced]
    exact h.displaced.leave e EntryState.noConfusion
  · show StackOf (s.moveEntry e .shedUnderfrequency .shed).entryState
      ((s.moveEntry e .shedUnderfrequency .shed).shc.stack ++ [e])
    rw [hstate, hstack]
    exact h.stack.push e

/-- One entry of the displaced list returned (R67). -/
def State.returnEntry (s : State) (e : Entry) : State :=
  if s.entryState e = .displaced then s.moveEntry e .waiting .sawReturn else s

theorem returnDisplaced_eq (s : State) :
    s.returnDisplaced =
      { s.adu.displaced.foldl State.returnEntry s with
        adu := { (s.adu.displaced.foldl State.returnEntry s).adu with displaced := [] } } := rfl

/-- The walk of the displaced list leaves none DISPLACED. -/
theorem placed_returnEntries (l : List Entry) (s : State) (hl : ∀ e ∈ s.adu.displaced, e ∈ l)
    (h : s.Placed) :
    (l.foldl State.returnEntry s).Placed ∧ (l.foldl State.returnEntry s).adu.displaced = [] := by
  induction l generalizing s with
  | nil => exact ⟨h, List.eq_nil_iff_forall_not_mem.mpr fun e he => List.not_mem_nil (hl e he)⟩
  | cons e es ih =>
    have next : (s.returnEntry e).Placed ∧ ∀ x ∈ (s.returnEntry e).adu.displaced, x ∈ es := by
      unfold State.returnEntry
      split
      · refine ⟨placed_moveEntry s e _ _ rfl EntryState.noConfusion h, fun x hx => ?_⟩
        rw [(places_moveEntry s e _ _ h).2.2.1, h.displaced.2.mem_erase_iff] at hx
        exact (List.mem_cons.mp (hl x hx.2)).resolve_left hx.1
      · next hs =>
        refine ⟨h, fun x hx => (List.mem_cons.mp (hl x hx)).resolve_left fun hxe => hs ?_⟩
        exact (h.displaced.1 e).mpr (hxe ▸ hx)
    exact ih _ next.2 next.1

theorem placed_returnDisplaced (s : State) (h : s.Placed) : s.returnDisplaced.Placed := by
  obtain ⟨placed, empty⟩ := placed_returnEntries s.adu.displaced s (fun _ he => he) h
  rw [returnDisplaced_eq]
  exact placed.of_eq rfl rfl rfl empty.symm rfl

/-! ### Resets and the load -/

theorem placed_empty {s : State} (hoff : ∀ e, s.entryState e = .off) (ht : s.adu.table = [])
    (hq : s.adu.queue = []) (hd : s.adu.displaced = []) (hk : s.shc.stack = []) : s.Placed := by
  have state : s.entryState = fun _ => .off := funext hoff
  constructor
  · rw [state, ht]; exact ⟨fun e k => by simp, List.Pairwise.nil⟩
  · rw [state, hq]; exact ⟨fun e => by simp, List.nodup_nil⟩
  · rw [state, hd]; exact ⟨fun e => by simp, List.nodup_nil⟩
  · rw [state, hk]; exact ⟨fun e he => (List.not_mem_nil he).elim, List.nodup_nil⟩

theorem admissionLaw_enterPhase (s : State) (ph : Phase) (v : Supply) : AdmissionLaw (s.enterPhase ph v) :=
  (admissionLaw_iff _).mpr ⟨placed_empty (fun e => congrArg Load.state (load_enterPhase s ph v e)) rfl rfl rfl rfl,
    fun _ => ⟨rfl, rfl, rfl, rfl⟩⟩

theorem admissionLaw_takeLoad (s : State) (starting : s.phase = .starting) (h : AdmissionLaw s) :
    AdmissionLaw s.takeLoad := by
  obtain ⟨-, before⟩ := (admissionLaw_iff s).mp h
  obtain ⟨ht, hq, hd, hk⟩ := before (by rw [starting]; exact Phase.noConfusion)
  exact (admissionLaw_iff _).mpr
    ⟨placed_empty (fun e => congrArg Load.state (load_takeLoad s e)) ht hq hd hk, fun _ => ⟨ht, hq, hd, hk⟩⟩

/-! ### The law -/

theorem admissionLaw_moved : Moved AdmissionLaw where
  reads := admissionLaw_reads
  reset := admissionLaw_enterPhase
  load := admissionLaw_takeLoad
  service s _ h :=
    admissionLaw_reads.frame (frame_startPresence { s with phase := .running, clockMs := 0, clockUs := 0 }) rfl
      (admissionLaw_running rfl ((admissionLaw_placed h).of_eq rfl rfl rfl rfl rfl))
  move s e d c hrun hr hd h :=
    admissionLaw_running hrun (placed_moveEntry s e d c hr hd (admissionLaw_placed h))
  write s e m new hrun h :=
    admissionLaw_running ((frame_writeFields s e m new .phase (by simp)).trans hrun)
      (placed_writeFields s e m new (admissionLaw_placed h))
  ended s r c hrun hr h :=
    admissionLaw_running ((frame_endReservation s r c .phase (by simp)).trans hrun)
      (placed_endReservation s r c (admissionLaw_placed h) hr)
  arrivals s wd hrun h :=
    admissionLaw_running ((frame_arrivals s wd .phase (by simp)).trans hrun)
      (placed_arrivals s wd (admissionLaw_placed h))
  granted s e k r hrun _ hk h :=
    admissionLaw_running hrun (placed_granted s e k r hk (admissionLaw_placed h))
  displaceOne short acc e hrun h :=
    admissionLaw_running ((frame_displaceOne short acc e .phase (by simp)).trans hrun)
      (placed_displaceOne short acc e (admissionLaw_placed h))
  returned s hrun h :=
    admissionLaw_running ((frame_returnDisplaced s .phase (by simp)).trans hrun)
      (placed_returnDisplaced s (admissionLaw_placed h))
  shedOnto s e hrun _ h := admissionLaw_running hrun (placed_shedOnto s e (admissionLaw_placed h))
  unstack s h := by
    obtain ⟨⟨table, queue, displaced, -⟩, before⟩ := (admissionLaw_iff s).mp h
    refine (admissionLaw_iff _).mpr
      ⟨⟨table, queue, displaced, fun e he => (List.not_mem_nil he).elim, List.nodup_nil⟩, fun hs => ?_⟩
    obtain ⟨ht, hq, hd, -⟩ := before hs
    exact ⟨ht, hq, hd, rfl⟩

/-- Settles O6: a move takes its entry out of the place that held it and, to WAITING, into the queue; the
three other places are filled by the operation that makes the move. -/
theorem admissionLawKept : Obligations.AdmissionLawKept := admissionLaw_moved.kept

end Sys2Proof.Machine
end

section
/-! PROOFS. Rules of the whole machine: the reset state, the queue, start-up, and what alone may clear the
trip latch, change the store and close K_DELTA. -/

namespace Sys2Proof.Machine

/-! ### Reset and queue -/

theorem reset_eq :
    State.reset = State.reset.enterPhase .starting { cause := .powerOn, released := true } := rfl

/-- Settles O14: the reset state is one a full reset's release enters, with a blank store. -/
theorem resetMeetsLaws : Obligations.ResetMeetsLaws := by
  unfold Obligations.ResetMeetsLaws
  rw [reset_eq]
  exact ⟨sawLaw_enterPhase _ _ _, permitLaw_enterPhase _ _ _ Phase.noConfusion, alarmLaw_enterPhase _ _ _,
    loadLaw_enterPhase _ _ _, chainLaw_enterPhase _ _ _, admissionLaw_enterPhase _ _ _,
    timerLaw_enterPhase _ _ _, regulatorLaw_enterPhase _ _ _ Phase.noConfusion, firingLaw_enterPhase _ _ _,
    settingsLaw_enterPhase_of_image _ _ _ (fun _ h => nomatch h), storeLaw_enterPhase _ _ _,
    receiverLaw_enterPhase _ _ _, boundLaw_enterPhase _ _ _⟩

/-- Settles O15. -/
theorem stepTakesFrontCommand : Obligations.StepTakesFrontCommand := fun _ _ _ => rfl

/-! ### Before service (R162, R177) -/

theorem perContactor_set_get {α : Type} (c : PerContactor α) (k : Contactor) : c.set k (c.get k) = c := by
  cases k <;> rfl

/-- Before service an announced effect on the service is none. -/
theorem next_whenRunning_not {s : State} {act : State → State} (h : s.phase ≠ .running) :
    Host.Outcome.next (φ := Fault) (ρ := Refusal) (s.whenRunning act) = .next s :=
  congrArg _ (whenRunning_not s act h)

/-- Settles O16: requests, inputs and timers of the service act while running alone. -/
theorem startUpIgnoresCommands : Obligations.StartUpIgnoresCommands := by
  intro i s h
  cases i with
  | fullResetAssert | fullResetRelease | settingsLoadEnd | checkWindowEnd | noGoodWindowTimeout
  | sourceSwitch | noticeDelivery | faultRaise => trivial
  | rxByte p b level => exact next_whenRunning_not (s := { s with setupEn := level }) h
  | auxChange k b =>
    show Host.Outcome.next _ = _
    split
    · next same => rw [← same, perContactor_set_get]
    · exact next_whenRunning_not (s := { s with sws := { s.sws with aux := s.sws.aux.set k b } }) h
  | sawEstopChange b =>
    show Host.Outcome.next _ = _
    split
    · next same => rw [← same]
    · exact next_whenRunning_not (s := { s with sws := { s.sws with estop := b } }) h
  | regulationUpdate v => exact (exec_regulationUpdate s v).trans (next_whenRunning_not h)
  | _ => exact next_whenRunning_not h

/-! ### Who may change a part -/

/-- A command that does not alter a part leaves it. -/
theorem stands_of_not_altered {i : Instr} {s t : State} (x : Part) (hx : x ≠ .senders)
    (hi : altersAny [x] i ≠ true) (he : exec i s = .next t) : x.Same s t := by
  refine exec_frame he x fun hm => ?_
  rcases List.mem_cons.mp hm with h | hm
  · exact hx h
  · exact hi (List.any_eq_true.mpr ⟨x, List.mem_singleton.mpr rfl, decide_eq_true hm⟩)

theorem latch_reads : Reads (fun s => s.tsv.latch = true) [.latch] := fun _ _ h hs =>
  h .latch (by simp) hs

/-- Settles O18: every other command leaves a set latch set, and TRIP RESET is port G's. -/
theorem onlyResetClearsTrip : Obligations.OnlyResetClearsTrip := by
  intro i s t he hs ht
  have cleared : ¬ t.tsv.latch = true := by rw [ht]; exact Bool.noConfusion
  by_cases hi : altersAny [.latch] i = true
  · cases i with
    | fullResetAssert x => exact .inr (.inl ⟨x, rfl⟩)
    | fullResetRelease mv b => exact .inr (.inr (.inl ⟨mv, b, rfl⟩))
    | settingsLoadEnd => exact .inr (.inr (.inr rfl))
    | tripReset p =>
      refine .inl (by_contra fun conditions => cleared ?_)
      refine keeps_request_permitted latch_reads rfl hs he fun _ permitted => ?_
      dsimp only
      split
      · exact hs
      · split
        · exact hs
        · next allowed =>
          cases p with
          | g => exact absurd ⟨rfl, by simpa using allowed⟩ conditions
          | s | h => exact Bool.noConfusion permitted
    | _ => nomatch hi
  · exact absurd (stands_of_not_altered .latch Part.noConfusion hi he hs) cleared

/-! ### The store (R146, R168, R171) -/

theorem image_stands {touched : List Part} {s t : State} (h : Frame touched s t)
    (hi : Part.apart [.image] touched = true) : t.sst.image = s.sst.image :=
  h .image (Part.not_mem_of_apart hi .image (List.mem_singleton.mpr rfl))

/-- The image changes only at the end of a save that agrees. -/
theorem image_of_exec {i : Instr} {s t : State} (he : exec i s = .next t)
    (hne : t.sst.image ≠ s.sst.image) :
    i = .saveEnd true ∧ ∃ start d, s.sst.save = .running start d ∧ t.sst.image = d.stored := by
  by_cases hi : altersAny [.image] i = true
  · cases i with
    | saveEnd agrees =>
      refine keeps_whenRunning (P := fun u => u.sst.image ≠ s.sst.image → Instr.saveEnd agrees = .saveEnd true
        ∧ ∃ start d, s.sst.save = .running start d ∧ u.sst.image = d.stored) (absurd rfl) he (fun _ => ?_) hne
      split
      · next start d running =>
        have ended : (s.saveEnded d agrees).startAreaWrite.sst.image =
            if agrees then d.stored else s.sst.image := by
          rw [image_stands (frame_startAreaWrite _) rfl]
          cases agrees <;> rfl
        cases agrees with
        | true => exact fun _ => ⟨rfl, start, d, running, ended⟩
        | false => exact fun hn => absurd ended hn
      · exact absurd rfl
    | _ => nomatch hi
  · exact absurd (stands_of_not_altered .image Part.noConfusion hi he) hne

/-- The trip area changes only at the end of its own write. -/
theorem tripArea_of_exec {i : Instr} {s t : State} (he : exec i s = .next t)
    (hne : t.sst.tripArea ≠ s.sst.tripArea) :
    i = .tripAreaWriteEnd ∧ ∃ w, s.sst.areaWrite = some w ∧ t.sst.tripArea = w.stored := by
  by_cases hi : altersAny [.tripArea] i = true
  · cases i with
    | tripAreaWriteEnd =>
      refine keeps_whenRunning (P := fun u => u.sst.tripArea ≠ s.sst.tripArea → Instr.tripAreaWriteEnd = .tripAreaWriteEnd
        ∧ ∃ w, s.sst.areaWrite = some w ∧ u.sst.tripArea = w.stored) (absurd rfl) he (fun _ => ?_) hne
      split
      · next w writing =>
        exact fun _ => ⟨rfl, w, writing,
          frame_startAreaWrite _ .tripArea (by simp)⟩
      · exact absurd rfl
    | _ => nomatch hi
  · exact absurd (stands_of_not_altered .tripArea Part.noConfusion hi he) hne

/-- Settles O19: of all commands one alters the image and one the trip area. -/
theorem onlySavesChangeStore : Obligations.OnlySavesChangeStore :=
  fun _ _ _ he => ⟨image_of_exec he, tripArea_of_exec he⟩

/-! ### K_DELTA (R127) -/

/-- What a completed changeover leaves behind (R127). -/
def State.DeltaDue (s t : State) : Prop :=
  s.sws.stage = .changeover ∧ t.sws.aux.star = false ∧ t.sws.commands.star = false
    ∧ (s.sws.dead = none
      ∨ ∃ start, s.sws.dead = some start ∧ t.settings.admission.deadTime * 1000 ≤ s.elapsed start)

/-- The changeover is completed from its stage, with AUX_STAR open and the dead time stopped. -/
theorem completeChangeover_delta (s : State) (hs : s.sws.commands.delta = false)
    (ht : s.completeChangeover.sws.commands.delta = true) :
    s.sws.stage = .changeover ∧ s.sws.dead = none ∧ s.completeChangeover.sws.aux.star = false
      ∧ s.completeChangeover.sws.commands.star = false := by
  by_cases due : s.sws.stage = .changeover ∧ s.sws.dead = none ∧ s.sws.aux.star = false
  · have done : s.completeChangeover = _ := if_pos due
    obtain ⟨stage, dead, aux⟩ := due
    rw [done]
    exact ⟨stage, dead, aux, rfl⟩
  · have same : s.completeChangeover = s := if_neg due
    rw [same, hs] at ht
    exact Bool.noConfusion ht

theorem endDeadTime_delta (s : State) (hs : s.sws.commands.delta = false)
    (ht : s.endDeadTime.sws.commands.delta = true) : s.DeltaDue s.endDeadTime := by
  have settings : s.endDeadTime.settings = s.settings := frame_endDeadTime s .settings (by simp)
  by_cases due : s.deadTimeDue = true
  · have ended : s.endDeadTime = { s with sws := { s.sws with dead := none } }.completeChangeover := if_pos due
    rw [ended] at ht settings ⊢
    obtain ⟨stage, -, aux, star⟩ :=
      completeChangeover_delta { s with sws := { s.sws with dead := none } } hs ht
    obtain ⟨-, elapsed⟩ := Bool.and_eq_true_iff.mp due
    refine ⟨stage, aux, star, .inr ?_⟩
    rw [settings]
    unfold State.ranOut at elapsed
    split at elapsed
    · next start hd => exact ⟨start, hd, of_decide_eq_true elapsed⟩
    · exact Bool.noConfusion elapsed
  · have same : s.endDeadTime = s := if_neg due
    rw [same, hs] at ht
    exact Bool.noConfusion ht

/-- A closing of K_DELTA from a given state is one of R127. -/
def State.DeltaRule (s t : State) : Prop :=
  s.sws.commands.delta = false → t.sws.commands.delta = true → s.DeltaDue t

/-- A change that does not close K_DELTA keeps the rule. -/
theorem deltaRule_of_frame {s t : State} {touched : List Part} (h : Frame touched s t)
    (hd : Part.apart [.delta] touched = true) : s.DeltaRule t := fun hs ht => by
  rw [h .delta (Part.not_mem_of_apart hd .delta (List.mem_singleton.mpr rfl)) ht] at hs
  exact Bool.noConfusion hs

theorem deltaRule_reads (s : State) : Reads s.DeltaRule [.saw, .settings] := fun t u h ht hs hu => by
  have saw : u.sws = t.sws := h .saw (by simp)
  have settings : u.settings = t.settings := h .settings (by simp)
  rw [saw] at hu
  unfold State.DeltaDue
  rw [saw, settings]
  exact ht hs hu

theorem deltaRule_afterAdmissionWrite (s : State) (i : Nat) : s.DeltaRule (s.afterAdmissionWrite i) := by
  unfold State.afterAdmissionWrite
  split
  · exact deltaRule_of_frame ((((frame_expireSlot s 0).trans (frame_expireSlot _ 1)).trans
      (frame_expireSlot _ 2)).trans (frame_expireSlot _ 3)) rfl
  · exact deltaRule_of_frame (frame_endRecovery s) rfl
  · exact deltaRule_of_frame (frame_endRestart s) rfl
  · exact deltaRule_of_frame (frame_expireSawWait s) rfl
  · exact deltaRule_of_frame (frame_endDwell s) rfl
  · exact endDeadTime_delta s
  · exact deltaRule_of_frame Frame.refl rfl (touched := [])

/-- A change of an auxiliary closes K_DELTA only as it completes the changeover. -/
theorem deltaRule_auxChange (s : State) (k : Contactor) (b : Bool) (t : State)
    (he : exec (.auxChange k b) s = .next t) : s.DeltaRule t := by
  have level : Frame [.saw] s { s with sws := { s.sws with aux := s.sws.aux.set k b } } := Frame.intro (by rfl)
  cases he
  split
  · exact deltaRule_of_frame Frame.refl rfl (touched := [])
  · refine keeps_whenRunning (deltaRule_of_frame level rfl) rfl fun _ => ?_
    split
    · intro hs ht
      obtain ⟨stage, dead, aux, star⟩ :=
        completeChangeover_delta { s with sws := { s.sws with aux := s.sws.aux.set k b } } hs ht
      exact ⟨stage, aux, star, .inl dead⟩
    · exact deltaRule_of_frame (level.andThen (frame_uncommandedChange _ k b) rfl rfl (c := .saw :: moving)) rfl

/-- Settles O20: K_DELTA closes as a changeover is completed: by AUX_STAR, by the dead time's end, or by a
write of the dead time that ends it. -/
theorem deltaClosesAfterStarOpens : Obligations.DeltaClosesAfterStarOpens := by
  intro i s t he
  show s.DeltaRule t
  have stood : s.DeltaRule s := deltaRule_of_frame Frame.refl rfl (touched := [])
  by_cases hi : altersAny [.delta] i = true
  · cases i with
    | auxChange k b => exact deltaRule_auxChange s k b t he
    | deadTimeExpiry => exact keeps_whenRunning stood he fun _ => endDeadTime_delta s
    | writeSetting p g i x v =>
      refine keeps_writeSetting (deltaRule_reads s) rfl stood he fun _ =>
        (keeps_writeItem s p _ _ _ _ ?_ ?_ ?_ ?_ ?_ ?_)
      · exact deltaRule_of_frame (frame_writeRegulation s _ _ _) rfl
      · exact deltaRule_of_frame (frame_writeSupervision s _ _) rfl
      · rw [writeAdmission_state]
        exact deltaRule_afterAdmissionWrite
          (s.withAdmission (s.settings.admission.write i.toNat v.toInt).1) i.toNat
      · exact fun e => deltaRule_of_frame (frame_writeLoadDefault s p e _ _) rfl
      · exact deltaRule_of_frame (frame_writeSlotPeriod s _) rfl
      · exact deltaRule_of_frame (frame_writeDevice s p _ _ _) rfl
    | _ => nomatch hi
  · intro hs ht
    rw [stands_of_not_altered .delta Part.noConfusion hi he ht] at hs
    exact Bool.noConfusion hs

end Sys2Proof.Machine
end

section
/-! PROOFS. Requests and frames: every request is answered or denied, its parameters read back, and its frame
reaches its owner; the ports stand apart. -/

namespace Sys2Proof.Machine

/-! ### Answers (R156, R157) -/

theorem senders_not_altered {i : Instr} {r : RequestName × Port × List Byte} (h : i.asRequest = some r) :
    altersAny [.senders, .clock] i = false := by
  cases i with
  | fullResetAssert | fullResetRelease => cases h
  | _ => rfl

/-- A taking leaves the time of the request in hand. -/
theorem requestTime_of_frame {s t : State} {touched : List Part} (h : Frame touched s t)
    (hs : Part.senders ∉ touched) (hc : Part.clock ∉ touched) (p : Port) :
    t.requestTime p = s.requestTime p := by
  have clock : t.timebase = s.timebase := h .clock hc
  have sender : (t.port p).tx = (s.port p).tx := congrFun (h .senders hs) p
  unfold State.requestTime
  rw [clock, sender]

/-- Settles O22: every request is taken through the one operation that answers it. -/
theorem everyRequestIsAnswered : Obligations.EveryRequestIsAnswered := by
  intro i n p params s hi hserves
  obtain ⟨body, hexec, htakes⟩ := exec_request i n p params hi
  obtain ⟨hframe, hknown⟩ := htakes s
  have apart := senders_not_altered hi
  have untouched (x : Part) (hx : x ∈ [Part.senders, .clock]) : x ∉ alters i := fun hm => by
    have : altersAny [.senders, .clock] i = true := List.any_eq_true.mpr ⟨x, hx, decide_eq_true hm⟩
    rw [apart] at this
    exact Bool.noConfusion this
  have time := requestTime_of_frame hframe (untouched _ (by simp)) (untouched _ (by simp)) p
  exact ⟨_, _, _, hexec s, replied_request s n i p body hserves time, hknown⟩

/-- Settles O23. -/
theorem roleIsChecked : Obligations.RoleIsChecked := by
  intro i n p params s hi hrun hdenied
  obtain ⟨body, hexec, -⟩ := exec_request i n p params hi
  rw [hexec s, request_denied s n i p body hrun hdenied]

/-! ### Reading back (section 10.2) -/

/-- Adjacent fields of a word, joined. -/
theorem extract_append {n : Nat} (x : BitVec n) (start len high : Nat) :
    x.extractLsb' (start + len) high ++ x.extractLsb' start len = x.extractLsb' start (high + len) :=
  BitVec.extractLsb'_append_extractLsb'_eq_extractLsb' rfl

theorem half_bytes (h : Half) : half (h.extractLsb' 8 8) (h.extractLsb' 0 8) = h :=
  (extract_append h 0 8 8).trans BitVec.extractLsb'_eq_self

theorem wide_bytes (w : Wide) :
    wide (w.extractLsb' 24 8) (w.extractLsb' 16 8) (w.extractLsb' 8 8) (w.extractLsb' 0 8) = w := by
  have high : w.extractLsb' 24 8 ++ w.extractLsb' 16 8 = w.extractLsb' 16 16 := extract_append w 16 8 8
  have middle : w.extractLsb' 16 16 ++ w.extractLsb' 8 8 = w.extractLsb' 8 24 := extract_append w 8 8 16
  unfold wide
  rw [high, middle]
  exact (extract_append w 0 8 24).trans BitVec.extractLsb'_eq_self

theorem halves_flatMap_bytes (l : List Half) : halves (l.flatMap Half.bytes) = some l := by
  induction l with
  | nil => rfl
  | cons h hs ih =>
    show (halves (hs.flatMap Half.bytes)).map (half _ _ :: ·) = _
    rw [ih, half_bytes]
    rfl

theorem length_flatMap_bytes (l : List Half) : (l.flatMap Half.bytes).length = 2 * l.length := by
  induction l with
  | nil => rfl
  | cons h hs ih =>
    show (hs.flatMap Half.bytes).length + 2 = _
    rw [ih, List.length_cons]
    omega

theorem ofCode_code (n : RequestName) : RequestName.ofCode n.code = some n := by cases n <;> rfl

/-- ROTA WRITE carries as many sets as its count says, 1 to 8. -/
theorem read_rotaWrite (p : Port) (page first : Byte) (sets : List Half) (h1 : 1 ≤ sets.length)
    (h8 : sets.length ≤ 8) :
    RequestName.rotaWrite.read p (page :: first :: BitVec.ofNat 8 sets.length :: sets.flatMap Half.bytes) =
      some (.rotaWrite p page first sets) := by
  have count : (BitVec.ofNat 8 sets.length).toNat = sets.length := by
    rw [BitVec.toNat_ofNat]; exact Nat.mod_eq_of_lt (by omega)
  show (if 1 ≤ (BitVec.ofNat 8 sets.length).toNat ∧ (BitVec.ofNat 8 sets.length).toNat ≤ 8
      ∧ (sets.flatMap Half.bytes).length = 2 * (BitVec.ofNat 8 sets.length).toNat then
    (halves (sets.flatMap Half.bytes)).map (Instr.rotaWrite p page first ·) else none) = _
  rw [count, length_flatMap_bytes, halves_flatMap_bytes, if_pos ⟨h1, h8, rfl⟩]
  rfl

/-- Settles O24: fields of two and four bytes read back as what was written. -/
theorem requestsReadBack : Obligations.RequestsReadBack := by
  intro i n p params hwf h
  refine ⟨?_, ofCode_code n, ?_⟩
  · cases i with
    | setNoticeControl q e d r m =>
      cases h
      exact congrArg₂ (fun r m => some (Instr.setNoticeControl p e d r m)) (half_bytes r) (half_bytes m)
    | clearFaults q k => cases h; exact congrArg (fun k => some (Instr.clearFaults p k)) (half_bytes k)
    | writeSetting q g i x v =>
      cases h
      exact congrArg (fun v => some (Instr.writeSetting p g i x v)) (wide_bytes v)
    | writeEntry q e f w m =>
      cases h
      cases m with
      | none => exact congrArg (fun w => some (Instr.writeEntry p e f w none)) (half_bytes w)
      | some m => exact congrArg (fun w => some (Instr.writeEntry p e f w (some m))) (half_bytes w)
    | setFill q f w => cases h; exact congrArg (fun w => some (Instr.setFill p f w)) (half_bytes w)
    | sawStart q w d => cases h; exact congrArg (fun w => some (Instr.sawStart p w d)) (half_bytes w)
    | rotaWrite q page first sets =>
      cases h
      obtain ⟨h1, h8⟩ := Bool.and_eq_true_iff.mp hwf
      exact read_rotaWrite p page first sets (of_decide_eq_true h1) (of_decide_eq_true h8)
    | readRota q sel => cases h; cases sel <;> rfl
    | _ => cases h <;> rfl
  · cases i with
    | rotaWrite q page first sets =>
      cases h
      obtain ⟨-, h8⟩ := Bool.and_eq_true_iff.mp hwf
      have := of_decide_eq_true h8
      simp only [List.length_cons, length_flatMap_bytes]
      omega
    | writeEntry q e f w m => cases h; cases m <;> exact Nat.le_of_ble_eq_true rfl
    | readRota q sel => cases h; cases sel <;> exact Nat.le_of_ble_eq_true rfl
    | _ => cases h <;> exact Nat.le_of_ble_eq_true rfl

end Sys2Proof.Machine
end

section
/-! PROOFS. The station ports: one port's bytes, gaps, breaks and responses leave the others, and a good
frame reaches its owner byte by byte. -/

namespace Sys2Proof.Machine

/-! ### Ports apart (chapter 10) -/

/-- From one state to another every port but one stands, with its notices. -/
def PortsBut (p : Port) (s t : State) : Prop := ∀ q, q ≠ p → t.port q = s.port q ∧ t.notices q = s.notices q

namespace PortsBut

variable {p : Port} {s t u : State}

theorem refl : PortsBut p s s := fun _ _ => ⟨rfl, rfl⟩

theorem trans (h : PortsBut p s t) (g : PortsBut p t u) : PortsBut p s u := fun q hq =>
  ⟨(g q hq).1.trans (h q hq).1, (g q hq).2.trans (h q hq).2⟩

/-- A change that leaves ports and notices. -/
theorem of_eq (hp : t.ports = s.ports) (hn : t.ntu = s.ntu) : PortsBut p s t := fun q _ =>
  ⟨congrArg (fun ports => PerPort.get ports q) hp, congrArg (fun ntu => PerPort.get ntu q) hn⟩

theorem setPort (s : State) (p : Port) (l : PortLink) : PortsBut p s (s.setPort p l) := fun _ hq =>
  ⟨port_setPort_other s l hq, rfl⟩

end PortsBut

theorem portsBut_dropLate (s : State) (p : Port) : PortsBut p s (s.dropLate p) := by
  unfold State.dropLate
  split
  · exact (PortsBut.setPort s p _).trans (PortsBut.setPort _ p _)
  · exact PortsBut.refl

theorem portsBut_answerSelf (s : State) (p : Port) (c : Byte) (r : Result) (k : LinkKind) (f : List Byte) :
    PortsBut p s (s.answerSelf p c r k f) :=
  ((PortsBut.setPort s p _).trans (PortsBut.setPort _ p _)).trans (PortsBut.setPort _ p _)

theorem portsBut_takeFrame (s : State) (p : Port) (f : List Byte) (c : Byte) (ps : List Byte) :
    PortsBut p s (s.takeFrame p f c ps) := by
  unfold State.takeFrame
  split
  · exact portsBut_answerSelf s p _ _ _ _
  · split
    · exact portsBut_answerSelf s p _ _ _ _
    · split
      · exact (PortsBut.setPort s p _).trans (PortsBut.of_eq rfl rfl)
      · exact portsBut_answerSelf s p _ _ _ _

theorem portsBut_goodFrame (s : State) (p : Port) (f : List Byte) (c : Byte) (ps : List Byte) :
    PortsBut p s (s.goodFrame p f c ps) := by
  have seen : PortsBut p s (s.seen p) := by
    unfold State.seen
    dsimp only
    split
    · exact PortsBut.setPort s p _
    · exact (PortsBut.setPort s p _).trans (PortsBut.of_eq rfl rfl)
  unfold State.goodFrame
  dsimp only
  split
  · exact seen.trans (portsBut_takeFrame _ p f c ps)
  · exact seen

theorem portsBut_judgeFrame (s : State) (p : Port) (f : List Byte) : PortsBut p s (s.judgeFrame p f) := by
  have hunted : PortsBut p s (s.hunt p) := PortsBut.setPort s p _
  unfold State.judgeFrame
  dsimp only
  split
  · split
    · exact hunted.trans (portsBut_goodFrame _ p _ _ _)
    · exact hunted.trans (PortsBut.setPort _ p _)
  · exact hunted

theorem portsBut_receive (s : State) (p : Port) (b : Byte) : PortsBut p s (s.receive p b) := by
  have kept (m : RxMode) : PortsBut p s (s.keepByte p b m) := PortsBut.setPort s p _
  unfold State.receive
  dsimp only
  split
  · split
    · exact kept _
    · exact PortsBut.refl
  · split
    · exact (PortsBut.setPort s p _).trans (PortsBut.setPort _ p _)
    · exact kept _
  · exact kept _
  · split
    · exact portsBut_judgeFrame s p _
    · exact kept _

theorem portsBut_resetPort (s : State) (p : Port) : PortsBut p s (s.resetPort p) := by
  have dropped : PortsBut p (s.hunt p) ((s.hunt p).dropPortKeeps p) := fun _ hq =>
    ⟨rfl, PerPort.get_set_other _ _ hq⟩
  exact ((PortsBut.setPort s p _).trans dropped).trans (PortsBut.setPort _ p _)

/-- A written baud rate that takes effect touches no more of another port than its line rate. -/
theorem port_applyBaud (s : State) (p q : Port) (hq : q ≠ p) :
    (s.applyBaud p).port q = { s.port q with lineBaud := ((s.applyBaud p).port q).lineBaud } := by
  unfold State.applyBaud
  split
  · next r baud _ =>
    by_cases hr : q = r
    · subst hr
      rw [port_setPort_same, port_setPort_other s _ hq]
    · rw [port_setPort_other _ _ hr, port_setPort_other s _ hq]
  · rfl

theorem notices_applyBaud (s : State) (p q : Port) : (s.applyBaud p).notices q = s.notices q := by
  unfold State.applyBaud
  split <;> rfl

/-- Settles O21: each of these commands replaces its own port's record, and a response's end at most the
line rate of another. -/
theorem portsAreApart : Obligations.PortsAreApart := by
  refine ⟨fun p q b level s t hq he => ?_, fun p q s t hq he => ?_⟩
  · suffices h : PortsBut p s t from h q hq
    rcases he with he | he | he | he
    · have sampled : PortsBut p s { s with setupEn := level } := PortsBut.of_eq rfl rfl
      refine keeps_whenRunning (P := PortsBut p s) sampled he fun _ => ?_
      split
      · exact sampled
      · exact (sampled.trans (portsBut_dropLate _ p)).trans (portsBut_receive _ p b)
    · exact keeps_whenRunning (P := PortsBut p s) PortsBut.refl he fun _ => portsBut_dropLate s p
    · refine keeps_whenRunning (P := PortsBut p s) PortsBut.refl he fun _ => ?_
      split
      · exact PortsBut.refl
      · exact (portsBut_resetPort s p).trans (PortsBut.setPort _ p _)
    · refine keeps_whenRunning (P := PortsBut p s) PortsBut.refl he fun _ => ?_
      split
      · split
        · exact PortsBut.setPort s p _
        · exact PortsBut.refl
      · exact PortsBut.refl
  · refine keeps_whenRunning (P := fun t => t.port q = { s.port q with lineBaud := (t.port q).lineBaud }
      ∧ t.notices q = s.notices q) ⟨rfl, rfl⟩ he fun _ => ?_
    split
    · rw [notices_applyBaud, port_applyBaud _ p q hq, port_setPort_other s _ hq]
      exact ⟨rfl, rfl⟩
    · exact ⟨rfl, rfl⟩

/-! ### A frame, byte by byte (R155) -/

/-- A port that has taken bytes of a frame at this moment, with SETUP_EN at a level. -/
def State.holding (s : State) (p : Port) (level : Bool) (m : RxMode) (bytes : List Byte) : State :=
  { s with setupEn := level }.setPort p
    { s.port p with rx := { mode := m, bytes := bytes, last := s.timebase } }

@[simp] theorem port_holding (s : State) (p : Port) (level : Bool) (m : RxMode) (bytes : List Byte) :
    (s.holding p level m bytes).port p =
      { s.port p with rx := { mode := m, bytes := bytes, last := s.timebase } } := PerPort.get_set_same _ _ _

theorem setPort_setPort (s : State) (p : Port) (l m : PortLink) : (s.setPort p l).setPort p m = s.setPort p m := by
  unfold State.setPort
  cases p <;> rfl

/-- A byte taken while one is held adds to what is held. -/
theorem keepByte_holding (s : State) (p : Port) (level : Bool) (m m' : RxMode) (bytes : List Byte) (b : Byte) :
    (s.holding p level m bytes).keepByte p b m' = s.holding p level m' (bytes ++ [b]) := by
  unfold State.keepByte
  rw [port_holding]
  exact setPort_setPort _ _ _ _

theorem elapsed_now (s : State) : s.elapsed s.timebase = 0 := by
  unfold State.elapsed
  rw [BitVec.sub_self]
  rfl

theorem feed_cons {p : Port} {level : Bool} {b : Byte} {s t : State} (he : exec (.rxByte p b level) s = .next t)
    (bs : List Byte) : feed p level (b :: bs) s = feed p level bs t := by
  show (match exec (.rxByte p b level) s with
    | .next t => feed p level bs t
    | _ => s) = _
  rw [he]

section
variable (s : State) (p : Port) (level : Bool) (hrun : s.phase = .running) (hidle : (s.port p).tx = .idle)
include hrun hidle

/-- A byte that follows at once is taken by the receiver as it stands. -/
theorem feed_holding (m : RxMode) (bytes : List Byte) (b : Byte) (bs : List Byte) :
    feed p level (b :: bs) (s.holding p level m bytes) =
      feed p level bs ((s.holding p level m bytes).receive p b) := by
  have gap : (s.holding p level m bytes).gapTooLong p = false := by
    have now : (s.holding p level m bytes).elapsed ((s.holding p level m bytes).port p).rx.last = 0 := by
      rw [port_holding]; exact elapsed_now s
    unfold State.gapTooLong
    rw [now]
    simp
  have awake : ((s.holding p level m bytes).port p).de = false := by
    rw [port_holding]; unfold PortLink.de; rw [hidle]
  have taken : exec (.rxByte p b level) (s.holding p level m bytes) =
      .next ((s.holding p level m bytes).receive p b) := by
    refine congrArg Host.Outcome.next ?_
    refine (whenRunning_running (s.holding p level m bytes) _ hrun).trans ?_
    rw [if_neg (by rw [awake]; exact Bool.noConfusion), dropLate_keeps _ p gap]
  exact feed_cons taken bs

/-- The start byte in HUNT with nothing held. -/
theorem feed_start (hmode : (s.port p).rx.mode = .hunt) (hbytes : (s.port p).rx.bytes = []) (bs : List Byte) :
    feed p level (0xC3 :: bs) s = feed p level bs (s.holding p level .length [0xC3]) := by
  have gap : ({ s with setupEn := level } : State).gapTooLong p = false := by
    show ((s.port p).rx.mode != .hunt && _) = false
    rw [hmode]
    rfl
  have awake : (s.port p).de = false := by unfold PortLink.de; rw [hidle]
  have taken : exec (.rxByte p 0xC3 level) s = .next (s.holding p level .length [0xC3]) := by
    refine congrArg Host.Outcome.next ?_
    refine (whenRunning_running { s with setupEn := level } _ hrun).trans ?_
    show (if (s.port p).de = true then _ else _) = _
    rw [awake, if_neg Bool.noConfusion, dropLate_keeps _ p gap]
    have received : ({ s with setupEn := level } : State).receive p 0xC3 =
        ({ s with setupEn := level } : State).keepByte p 0xC3 .length := by
      unfold State.receive
      dsimp only
      rw [show (({ s with setupEn := level } : State).port p).rx.mode = .hunt from hmode]
      rfl
    rw [received]
    unfold State.keepByte State.holding
    rw [show (({ s with setupEn := level } : State).port p).rx.bytes = [] from hbytes]
    rfl
  exact feed_cons taken bs

theorem feed_length (len : Byte) (h1 : 1 ≤ len.toNat) (h48 : len.toNat ≤ 48) (bs : List Byte) :
    feed p level (len :: bs) (s.holding p level .length [0xC3]) =
      feed p level bs (s.holding p level .body [0xC3, len]) := by
  have good : ¬(len = 0 ∨ 48 < len.toNat) := by
    rintro (rfl | h)
    · exact absurd h1 (by decide)
    · omega
  have received : (s.holding p level .length [0xC3]).receive p len = s.holding p level .body [0xC3, len] := by
    refine Eq.trans ?_ (keepByte_holding s p level .length .body [0xC3] len)
    unfold State.receive
    rw [port_holding]
    exact if_neg good
  rw [feed_holding s p level hrun hidle, received]

/-- The bytes LEN counts, until the receiver expects the check. -/
theorem feed_body (len : Byte) (bs taken rest : List Byte) (hbs : bs ≠ [])
    (hlen : taken.length + bs.length = len.toNat) :
    feed p level (bs ++ rest) (s.holding p level .body (0xC3 :: len :: taken)) =
      feed p level rest (s.holding p level .check (0xC3 :: len :: (taken ++ bs))) := by
  induction bs generalizing taken with
  | nil => exact absurd rfl hbs
  | cons b bs ih =>
    have received (m : RxMode)
        (hm : (if (0xC3 :: len :: taken).length + 1 = len.toNat + 2 then RxMode.check else .body) = m) :
        (s.holding p level .body (0xC3 :: len :: taken)).receive p b =
          s.holding p level m (0xC3 :: len :: (taken ++ [b])) := by
      refine Eq.trans ?_ (keepByte_holding s p level .body m (0xC3 :: len :: taken) b)
      unfold State.receive
      rw [port_holding, ← hm]
      rfl
    rw [List.length_cons] at hlen
    rw [List.cons_append, feed_holding s p level hrun hidle]
    cases bs with
    | nil =>
      rw [received .check (if_pos (by simp only [List.length_cons]; simp at hlen; omega))]
      rfl
    | cons b' bs =>
      rw [received .body (if_neg (by simp only [List.length_cons] at hlen ⊢; omega)),
        ih (taken ++ [b]) (List.cons_ne_nil _ _) (by simp only [List.length_append, List.length_cons, List.length_nil] at hlen ⊢; omega),
        List.append_assoc]
      rfl

/-- The two bytes of the check, and the frame judged. -/
theorem feed_check (len hi lo : Byte) (body : List Byte) (hlen : body.length = len.toNat) :
    feed p level [hi, lo] (s.holding p level .check (0xC3 :: len :: body)) =
      (s.holding p level .check (0xC3 :: len :: (body ++ [hi]))).judgeFrame p
        (0xC3 :: len :: (body ++ [hi, lo])) := by
  have first : (s.holding p level .check (0xC3 :: len :: body)).receive p hi =
      s.holding p level .check (0xC3 :: len :: (body ++ [hi])) := by
    refine Eq.trans ?_ (keepByte_holding s p level .check .check (0xC3 :: len :: body) hi)
    unfold State.receive
    rw [port_holding]
    refine if_neg ?_
    show (0xC3 :: len :: body).length + 1 ≠ len.toNat + 4
    simp only [List.length_cons]
    omega
  have second : (s.holding p level .check (0xC3 :: len :: (body ++ [hi]))).receive p lo =
      (s.holding p level .check (0xC3 :: len :: (body ++ [hi]))).judgeFrame p
        (0xC3 :: len :: (body ++ [hi, lo])) := by
    unfold State.receive
    rw [port_holding]
    dsimp only
    rw [if_pos (by
      show (0xC3 :: len :: (body ++ [hi])).length + 1 = len.toNat + 4
      simp only [List.length_cons, List.length_append, List.length_nil]
      omega)]
    simp
  rw [feed_holding s p level hrun hidle, first, feed_holding s p level hrun hidle, second]
  rfl

end

/-- A frame whose check agrees is a good frame (R155). -/
theorem judgeFrame_good (s : State) (p : Port) (len code : Byte) (params : List Byte) (crc : BitVec 16)
    (hlen : params.length + 1 = len.toNat) (hcrc : crc = crc16 (len :: code :: params)) :
    s.judgeFrame p (0xC3 :: len :: code :: (params ++ Half.bytes crc)) =
      (s.hunt p).goodFrame p (0xC3 :: len :: code :: (params ++ Half.bytes crc)) code params := by
  have hpl : len.toNat - 1 = params.length := by omega
  unfold State.judgeFrame
  dsimp only
  rw [hpl, List.take_left, List.drop_left, if_pos (by rw [hcrc])]

/-- What a good frame does to presence (R161). -/
theorem port_seen (s : State) (p : Port) :
    (s.seen p).port p = { s.port p with present := true, silence := s.silenceStart p } := by
  unfold State.seen
  dsimp only
  split
  · exact port_setPort_same s p _
  · exact port_setPort_same s p _

theorem posted_seen (s : State) (p : Port) :
    (s.seen p).posted =
      s.posted ++ (if (s.port p).present then [] else [.noticeDelivery .portPresence p.number 1]) := by
  unfold State.seen
  dsimp only
  split
  · exact (List.append_nil _).symm
  · rfl

theorem seen_keeps (s : State) (p : Port) :
    (s.seen p).timebase = s.timebase ∧ (s.seen p).setupEn = s.setupEn := by
  unfold State.seen
  dsimp only
  split <;> exact ⟨rfl, rfl⟩

/-- A good frame of a permitted request, of an idle port: in hand, the port PRESENT, and the request
announced (R156, R161). -/
theorem goodFrame_permitted (s : State) (p : Port) (f : List Byte) (n : RequestName) (params : List Byte)
    (i : Instr) (hidle : (s.port p).tx = .idle) (hread : n.read p params = some i)
    (hp : n.permits p s.setupEn = true) :
    s.goodFrame p f n.code params = ((s.seen p).takeInHand p).post i := by
  have tx : ((s.seen p).port p).tx = .idle := by rw [port_seen]; exact hidle
  obtain ⟨-, setup⟩ := seen_keeps s p
  unfold State.goodFrame
  dsimp only
  rw [tx]
  unfold State.takeFrame
  rw [ofCode_code]
  dsimp only
  rw [hread]
  dsimp only
  rw [setup, if_pos hp]

/-- Settles O25: start byte, LEN, body and check, byte by byte, then the good frame. -/
theorem frameReachesOwner : Obligations.FrameReachesOwner := by
  intro i n p params level s hwf hi hrun hp hmode hbytes hidle
  obtain ⟨hread, -, hlen48⟩ := requestsReadBack i n p params hwf hi
  have hframe : i.frame = requestFrame n params := by unfold Instr.frame; rw [hi]
  have hlen : (BitVec.ofNat 8 (params.length + 1)).toNat = params.length + 1 := by
    rw [BitVec.toNat_ofNat]; exact Nat.mod_eq_of_lt (by omega)
  obtain ⟨bytes, fed⟩ : ∃ bytes, feed p level i.frame s =
      ((s.holding p level .check bytes).hunt p).goodFrame p i.frame n.code params := by
    have body := feed_body s p level hrun hidle (BitVec.ofNat 8 (params.length + 1)) (n.code :: params) []
      (Half.bytes (crc16 (requestBody n params))) (List.cons_ne_nil _ _) (by rw [hlen]; simp)
    have check := feed_check s p level hrun hidle (BitVec.ofNat 8 (params.length + 1))
      ((crc16 (requestBody n params)).extractLsb' 8 8) ((crc16 (requestBody n params)).extractLsb' 0 8)
      (n.code :: params) (by rw [hlen]; rfl)
    have start := feed_start s p level hrun hidle hmode hbytes
      (requestBody n params ++ Half.bytes (crc16 (requestBody n params)))
    have length := feed_length s p level hrun hidle (BitVec.ofNat 8 (params.length + 1))
      (by omega) (by omega) ((n.code :: params) ++ Half.bytes (crc16 (requestBody n params)))
    rw [hframe]
    have judged := judgeFrame_good (s.holding p level .check (0xC3 :: BitVec.ofNat 8 (params.length + 1)
      :: (n.code :: params ++ [(crc16 (requestBody n params)).extractLsb' 8 8]))) p _ n.code params _
      hlen.symm rfl
    exact ⟨_, start.trans (length.trans (body.trans (check.trans judged)))⟩
  have port : ((s.holding p level .check bytes).hunt p).port p =
      { s.port p with rx := { mode := .hunt, bytes := [], last := s.timebase } } := by
    rw [port_hunt, port_holding]
  rw [fed, goodFrame_permitted _ p _ n params i (by rw [port]; exact hidle) hread hp]
  have taken := port_takeInHand (((s.holding p level .check bytes).hunt p).seen p) p
  have seen := port_seen ((s.holding p level .check bytes).hunt p) p
  have posted := posted_seen ((s.holding p level .check bytes).hunt p) p
  obtain ⟨clock, setup⟩ := seen_keeps ((s.holding p level .check bytes).hunt p) p
  rw [port] at posted seen
  rw [seen, clock, setup] at taken
  refine ⟨(congrArg PortLink.tx taken :), (congrArg (fun l => l.rx.mode) taken :),
    (congrArg PortLink.present taken :), ?_⟩
  exact congrArg (· ++ [i]) posted

end Sys2Proof.Machine
end

section
/-! PROOFS. Grants: an entry becomes RESERVED only by a grant, under the conditions of the examination. -/

namespace Sys2Proof.Machine

/-! ### Arrivals leave the conditions of an examination (R56) -/

/-- From one state to another the Admission Unit stands but for its table, and so does the shed stack. -/
def TableBut (s t : State) : Prop := t.adu = { s.adu with table := t.adu.table } ∧ t.shc = s.shc

theorem tableBut_endReservation (s : State) (r : Reservation) (c : MoveCause) :
    TableBut s (s.endReservation r c) := by
  unfold State.endReservation
  dsimp only
  split
  · next reserved =>
    have kept (u : State) (hu : (u.entryState r.entry).isReserved = true) :
        TableBut u (u.moveEntry r.entry .on c) := by
      unfold TableBut
      rw [State.moveEntry_adu]
      unfold State.admissionAfterMove
      cases hs : u.entryState r.entry with
      | reserved k =>
        refine ⟨rfl, ?_⟩
        show ({ u.shc with stack := (u.moveEntry r.entry .on c).shc.stack } : Shed) = u.shc
        rw [stack_moveEntry, hs, if_neg EntryState.noConfusion]
      | _ => rw [hs] at hu; exact Bool.noConfusion hu
    obtain ⟨adu, shc⟩ := kept _ reserved
    exact ⟨adu, shc⟩
  · exact ⟨rfl, rfl⟩

theorem tableBut_arrivals (s : State) (wd : Nat) : TableBut s (s.arrivals wd) := by
  unfold State.arrivals
  generalize s.adu.table.filter (hasArrived wd) = l
  induction l generalizing s with
  | nil => exact ⟨rfl, rfl⟩
  | cons r rs ih =>
    obtain ⟨adu, shc⟩ := tableBut_endReservation s r .arrived
    obtain ⟨adu', shc'⟩ := ih (s.arrive r)
    refine ⟨adu'.trans ?_, shc'.trans shc⟩
    show ({ (s.endReservation r .arrived).adu with table := _ } : Admission) = _
    rw [adu]
    rfl

/-! ### A grant's table and headroom (R55, R64) -/

theorem heldWatts_filter_le (p : Reservation → Bool) (t : List Reservation) :
    heldWatts (t.filter p) ≤ heldWatts t :=
  (List.filter_sublist.map _).sum_le_sum fun _ _ => Nat.zero_le _

theorem length_insertRecord (r : Reservation) (t : List Reservation) :
    (insertRecord r t).length = t.length + 1 := by
  induction t with
  | nil => rfl
  | cons x xs ih =>
    unfold insertRecord
    split
    · rfl
    · rw [List.length_cons, ih, List.length_cons]

/-- A move takes from the table at most the records of its entry. -/
theorem table_moveEntry (s : State) (e : Entry) (d : EntryState) (c : MoveCause) :
    ∃ p : Reservation → Bool, (s.moveEntry e d c).adu.table = s.adu.table.filter p := by
  have whole : s.adu.table = s.adu.table.filter fun _ => true := (List.filter_eq_self.mpr fun _ _ => rfl).symm
  rw [State.moveEntry_adu]
  unfold State.admissionAfterMove
  cases s.entryState e with
  | reserved k => cases d <;> exact ⟨_, rfl⟩
  | _ => cases d <;> exact ⟨_, whole⟩

/-- A move leaves the floor and the mark of the reference. -/
theorem floor_moveEntry (s : State) (e : Entry) (d : EntryState) (c : MoveCause) :
    (s.moveEntry e d c).adu.floor = s.adu.floor ∧ (s.moveEntry e d c).adu.crystal = s.adu.crystal := by
  rw [State.moveEntry_adu]
  unfold State.admissionAfterMove
  cases s.entryState e <;> cases d <;> exact ⟨rfl, rfl⟩

/-- The table after a grant: the new record among what is left of the others. -/
theorem table_granted (s : State) (e : Entry) (k : Fin 4) (r : RegRecord) :
    ∃ p : Reservation → Bool,
      (s.granted e k r).adu.table = insertRecord (s.recordFor e k r) (s.adu.table.filter p) := by
  obtain ⟨p, hp⟩ := table_moveEntry (s.setLoad e { s.load e with notSeen := false }) e (.reserved k) .grant
  exact ⟨p, congrArg (insertRecord _) hp⟩

/-- A grant's state is the granted one, whatever it announces. -/
theorem grant_keeps {P : State → Prop} (s : State) (e : Entry) (k : Fin 4) (r : RegRecord)
    (h : ∀ posted, P { s.granted e k r with posted := posted }) : P (s.grant e k r) := by
  rw [grant_eq]
  split
  · exact h _
  · exact h (s.granted e k r).posted

/-- What a grant at a record leaves: a record of its own among at most four, and headroom. -/
theorem grant_meets (s : State) (e : Entry) (k : Fin 4) (r : RegRecord) (four : s.adu.table.length < 4)
    (room : 0 ≤ s.headroom - s.grantWatts e) :
    (∃ x ∈ (s.grant e k r).adu.table, x.entry = e ∧ x.slot = k) ∧ (s.grant e k r).adu.table.length ≤ 4
      ∧ 0 ≤ (s.grant e k r).headroom := by
  obtain ⟨p, table⟩ := table_granted s e k r
  have held := heldWatts_filter_le p s.adu.table
  have count := List.length_filter_le p s.adu.table
  obtain ⟨floor, crystal⟩ :=
    floor_moveEntry (s.setLoad e { s.load e with notSeen := false }) e (.reserved k) .grant
  refine grant_keeps (P := fun u => (∃ x ∈ u.adu.table, x.entry = e ∧ x.slot = k) ∧ u.adu.table.length ≤ 4
    ∧ 0 ≤ u.headroom) s e k r fun posted => ?_
  refine ⟨⟨s.recordFor e k r, ?_, rfl, rfl⟩, ?_, ?_⟩
  · show _ ∈ (s.granted e k r).adu.table
    rw [table]
    exact (mem_insertRecord ..).mpr (.inl rfl)
  · show (s.granted e k r).adu.table.length ≤ 4
    rw [table, length_insertRecord]
    omega
  · have reserve : (s.granted e k r).reserveEff = s.reserveEff := by
      unfold State.reserveEff
      rw [show (s.granted e k r).adu.crystal = s.adu.crystal from crystal]
      rfl
    have floor' : (s.granted e k r).adu.floor = s.adu.floor := floor
    show 0 ≤ (s.granted e k r).headroom
    unfold State.headroom at room ⊢
    rw [reserve, floor', table, held_insertRecord]
    show 0 ≤ (s.adu.floor : Int) - s.reserveEff - ((s.grantWatts e + heldWatts (s.adu.table.filter p) : Nat) : Int)
    omega

/-- An entry of a grant's state in RESERVED that was not so before is the one granted. -/
theorem entryState_grant (s : State) (e : Entry) (k : Fin 4) (r : RegRecord) (x : Entry) (j : Fin 4)
    (hs : s.entryState x ≠ .reserved j) (ht : (s.grant e k r).entryState x = .reserved j) : x = e ∧ j = k := by
  have state : (s.grant e k r).entryState x =
      ((s.setLoad e { s.load e with notSeen := false }).moveEntry e (.reserved k) .grant).entryState x :=
    grant_keeps (P := fun u => u.entryState x = _) s e k r fun _ => rfl
  rw [state] at ht
  by_cases hx : x = e
  · subst hx
    rw [entryState_moveEntry_same] at ht
    exact ⟨rfl, (EntryState.reserved.inj ht).symm⟩
  · rw [entryState_moveEntry_other _ _ _ hx] at ht
    refine absurd ?_ hs
    rw [← ht]
    exact congrArg Load.state (load_setLoad_other s _ hx).symm

/-- What an examination that makes an entry RESERVED has found, and what it leaves. -/
theorem examine_reserves (s : State) (r : RegRecord) (e : Entry) (k : Fin 4)
    (hs : s.entryState e ≠ .reserved k) (ht : (s.examine r).entryState e = .reserved k) :
    s.examined.head? = some e ∧ s.mayExamine = true
      ∧ (∃ x ∈ (s.examine r).adu.table, x.entry = e ∧ x.slot = k) ∧ (s.examine r).adu.table.length ≤ 4
      ∧ 0 ≤ (s.examine r).headroom := by
  unfold State.examine at ht ⊢
  split at ht
  · next e' es k' head free =>
    dsimp only at ht ⊢
    split at ht
    · next may =>
      have four : s.adu.table.length < 4 := by
        simp only [State.mayExamine, Bool.and_eq_true, decide_eq_true_eq] at may
        exact may.1.1.1
      split at ht
      · next room =>
        obtain ⟨rfl, rfl⟩ := entryState_grant s e' k' r e k hs ht
        simp only [head, may, room, if_true]
        exact ⟨rfl, trivial, grant_meets s e k r four room⟩
      · split at ht
        · exact absurd (frame_displace s _ .reserved (by simp) e k ht) hs
        · exact absurd ht hs
    · exact absurd ht hs
  · exact absurd ht hs

/-- The conditions of an examination (R63). -/
theorem mayExamine_conditions {s : State} (h : s.mayExamine = true) :
    (∀ last, s.adu.lastGrant = some last → s.settings.admission.restoreSpacing * 1000 ≤ s.elapsed last)
      ∧ (s.shc.state = .normal ∨ s.shc.state = .confirming) ∧ s.tsv.latch = false := by
  unfold State.mayExamine at h
  simp only [Bool.and_eq_true, Bool.or_eq_true, beq_iff_eq, Bool.not_eq_true', decide_eq_true_eq] at h
  obtain ⟨⟨⟨-, spacing⟩, shed⟩, latch⟩ := h
  refine ⟨fun last hl => ?_, shed, latch⟩
  unfold State.spacingElapsed at spacing
  rw [hl] at spacing
  exact of_decide_eq_true spacing

/-- What a grant of an entry to a slot has found, and what it leaves (R63, R64). -/
def State.GrantRule (s : State) (e : Entry) (k : Fin 4) (t : State) : Prop :=
  s.tsv.latch = false ∧ (s.shc.state = .normal ∨ s.shc.state = .confirming) ∧ s.examined.head? = some e
    ∧ (∀ last, s.adu.lastGrant = some last → s.settings.admission.restoreSpacing * 1000 ≤ s.elapsed last)
    ∧ (∃ x ∈ t.adu.table, x.entry = e ∧ x.slot = k) ∧ t.adu.table.length ≤ 4 ∧ 0 ≤ t.headroom

/-- Settles O17: of all commands a regulation record alone grants, and its arrivals leave what the
examination looks at but the table. -/
theorem onlyGrantsReserve : Obligations.OnlyGrantsReserve := by
  intro i s t e k he hs ht
  by_cases hi : altersAny [.reserved] i = true
  · cases i with
    | recordAtAdmission r =>
      refine ⟨⟨r, rfl⟩, ?_⟩
      revert ht
      refine keeps_whenRunning (P := fun t => t.entryState e = .reserved k → s.GrantRule e k t)
        (fun h => absurd h hs) he fun _ ht => ?_
      have arrived := frame_arrivals { s with adu := { s.adu with floor := r.floor } } r.wd
      obtain ⟨adu, shc⟩ := tableBut_arrivals { s with adu := { s.adu with floor := r.floor } } r.wd
      have before : (({ s with adu := { s.adu with floor := r.floor } } : State).arrivals r.wd).entryState e
          ≠ .reserved k := fun h => hs (arrived .reserved (by simp) e k h)
      obtain ⟨head, may, found⟩ := examine_reserves _ r e k before ht
      obtain ⟨spacing, shed, latch⟩ := mayExamine_conditions may
      have clock : (State.arrivals _ r.wd).timebase = s.timebase := arrived .clock (by simp)
      have settings : (State.arrivals _ r.wd).settings = s.settings := arrived .settings (by simp)
      have permit : (State.arrivals _ r.wd).tsv.latch = s.tsv.latch := (arrived .permit (by simp)).1
      rw [permit] at latch
      rw [shc] at shed
      refine ⟨latch, shed, ?_, fun last hl => ?_, found⟩
      · unfold State.examined State.sawRefused at head
        rw [adu] at head
        exact head
      · have := spacing last (by rw [adu]; exact hl)
        unfold State.elapsed at this ⊢
        rwa [settings, clock] at this
    | _ => nomatch hi
  · exact absurd (stands_of_not_altered .reserved Part.noConfusion hi he e k ht) hs

end Sys2Proof.Machine
end

section
/-! PROOFS. How a command acts while running, said once; and what the walks over the load table do to each
entry: line loss, slot applications, restart, recovery and the rota's commands. -/

namespace Sys2Proof.Machine

/-! ### Commands and requests while running -/

/-- A command while running is its act. -/
theorem next_running {s t : State} {act : State → State} (hrun : s.phase = .running) (h : act s = t) :
    Host.Outcome.next (φ := Fault) (ρ := Refusal) (s.whenRunning act) = .next t := by
  rw [whenRunning_running s act hrun, h]

theorem next_released {s t : State} {act : State → State} (hr : s.phase ≠ .held) (h : act s = t) :
    Host.Outcome.next (φ := Fault) (ρ := Refusal) (s.whenReleased act) = .next t := by
  rw [whenReleased_released s act hr, h]

section
variable {s t : State} {n : RequestName} {i : Instr} {p : Port} {body : State → Taking} {r : Result}
  {d : List Byte}

/-- A request its owner takes is answered with the owner's result. -/
theorem next_taken (hs : s.serves n p) (hb : body s = (t, r, d)) (hm : r ≠ .malformed) (hd : r ≠ .denied) :
    Host.Outcome.next (φ := Fault) (ρ := Refusal) (s.request n i p body) = .next (t.answer p n.code r d) := by
  have taken := request_taken s n i p body hs (by rw [hb]; exact hm) (by rw [hb]; exact hd)
  rw [taken, hb]

/-- A request its owner finds MALFORMED. -/
theorem next_malformed (hs : s.serves n p) (hb : body s = s.refuse .malformed) :
    Host.Outcome.next (φ := Fault) (ρ := Refusal) (s.request n i p body) =
      .next ((s.linkFault p .malformed i.frame).answer p n.code .malformed []) := by
  rw [(request_faulted s n i p body hs).1 (by rw [hb]; rfl), hb]
  rfl

/-- A request its owner denies. -/
theorem next_refused (hs : s.serves n p) (hb : body s = s.refuse .denied) :
    Host.Outcome.next (φ := Fault) (ρ := Refusal) (s.request n i p body) =
      .next ((s.linkFault p .denied i.frame).answer p n.code .denied []) := by
  rw [(request_faulted s n i p body hs).2 (by rw [hb]; rfl), hb]
  rfl

/-- A request of a port that may not send it. -/
theorem next_denied (hrun : s.phase = .running) (hp : n.permits p (s.setupAt p) = false) :
    Host.Outcome.next (φ := Fault) (ρ := Refusal) (s.request n i p body) =
      .next ((s.linkFault p .denied i.frame).answer p n.code .denied []) := by
  rw [request_denied s n i p body hrun hp]

theorem requestTime_congr (clock : t.timebase = s.timebase) (ports : t.ports = s.ports) :
    t.requestTime p = s.requestTime p := by
  unfold State.requestTime State.port
  rw [clock, ports]

/-- An answer is a reply with the request's time, when the taking leaves that. -/
theorem replied_answer (ht : t.requestTime p = s.requestTime p) : Replied s (t.answer p n.code r d) p n r d := by
  unfold Replied
  rw [port_answer_same, notices_answer, ht]

end

/-- A timer that has run out. -/
theorem ranOut_some {s : State} {timer : Option Time} {start : Time} {us : Nat} (h : timer = some start)
    (hu : us ≤ s.elapsed start) : s.ranOut timer us = true := by
  rw [h]; exact decide_eq_true hu

/-! ### Walks that move entries (section 5.2) -/

/-- The record of an entry after a move. -/
def Load.moved (l : Load) (d : EntryState) : Load :=
  { l with state := d, fields := { l.fields with wanted := decide (d ≠ .off) } }

/-- A walk that moves the entries a test of their own record picks. -/
theorem load_moveAll (s : State) (test : State → Entry → Bool) (T : Entry → Load → Bool) (d : EntryState)
    (c : MoveCause) (ht : ∀ s e, test s e = T e (s.load e)) (e : Entry) :
    (s.forEntries test fun s e => s.moveEntry e d c).load e =
      if T e (s.load e) then (s.load e).moved d else s.load e :=
  load_forEntries test _ T (fun _ l => l.moved d) (fun _ => True) (fun _ _ _ => trivial)
    (fun s e _ => ht s e) (fun s e _ => load_moveEntry_same s e d c)
    (fun s _ _ _ hx => load_moveEntry_other s d c hx) s trivial e

/-- A walk that moves the entries in one state. -/
theorem entryState_moveAll (s : State) (x d : EntryState) (c : MoveCause) (e : Entry) :
    (s.forEntries (fun s e => s.entryState e == x) fun s e => s.moveEntry e d c).entryState e =
      if s.entryState e = x then d else s.entryState e := by
  have walked := load_moveAll s (fun s e => s.entryState e == x) (fun _ l => l.state == x) d c
    (fun _ _ => rfl) e
  refine (congrArg Load.state walked).trans ?_
  show Load.state (if (s.entryState e == x) = true then _ else _) = _
  by_cases h : s.entryState e = x
  · rw [if_pos (beq_iff_eq.mpr h), if_pos h]; rfl
  · rw [if_neg (fun hb => h (beq_iff_eq.mp hb)), if_neg h]; rfl

/-- A move of an entry that is not SHED for UNDERFREQUENCY leaves the Shed Controller. -/
theorem shc_moveEntry (s : State) (e : Entry) (d : EntryState) (c : MoveCause)
    (h : s.entryState e ≠ .shedUnderfrequency) : (s.moveEntry e d c).shc = s.shc := by
  show ({ s.shc with stack := (s.moveEntry e d c).shc.stack } : Shed) = s.shc
  rw [stack_moveEntry, if_neg h]

/-! ### Line loss, slot applications, the saw-stopped report (R77, R79, R80) -/

theorem entryState_lineLoss (s : State) (e : Entry) :
    (s.forEntries (fun s e => EntryState.lostWithLine (s.entryState e)) State.loseEntry).entryState e =
      if EntryState.lostWithLine (s.entryState e) then if e = sawEntry then .off else .shedLineLoss
      else s.entryState e := by
  have walked := load_forEntries (fun s e => EntryState.lostWithLine (s.entryState e)) State.loseEntry
    (fun _ l => EntryState.lostWithLine l.state)
    (fun e l => if e = sawEntry then l.moved .off else l.moved .shedLineLoss) (fun _ => True)
    (fun _ _ _ => trivial) (fun _ _ _ => rfl) (fun s e _ => by
      unfold State.loseEntry
      split
      · exact load_moveEntry_same s e .off .lineLoss
      · exact load_moveEntry_same s e .shedLineLoss .lineLoss)
    (fun s e x _ hx => by
      unfold State.loseEntry
      split
      · exact load_moveEntry_other s .off .lineLoss hx
      · exact load_moveEntry_other s .shedLineLoss .lineLoss hx) s trivial e
  refine (congrArg Load.state walked).trans ?_
  show Load.state (if EntryState.lostWithLine (s.entryState e) then _ else _) = _
  split
  · split <;> rfl
  · rfl

/-- What a slot application makes of a member's state and an entry's allowed bit. -/
theorem entryState_applySlot (s : State) (a : AllowedSet) (hp : s.rtp.playing = true) (e : Entry) :
    (s.applySlot a).entryState e =
      if 14 ≤ e.val then s.entryState e
      else if a.getLsbD e.val then if s.entryState e = .rotaOff then .waiting else s.entryState e
      else if (s.load e).fields.member = true ∧ s.entryState e ≠ .off then .rotaOff
      else s.entryState e := by
  unfold State.applySlot
  rw [hp]
  dsimp only
  rw [if_pos rfl]
  have excluded := load_moveAll s (fun s e => s.slotExcludes a e)
    (fun e l => decide (e.val < 14) && !a.getLsbD e.val && l.fields.member && l.state != .off
      && l.state != .rotaOff) .rotaOff .rotaExclude (fun _ _ => rfl) e
  have included := load_moveAll
    (s.forEntries (fun s e => s.slotExcludes a e) fun s e => s.moveEntry e .rotaOff .rotaExclude)
    (fun s e => s.slotIncludes a e)
    (fun e l => decide (e.val < 14) && a.getLsbD e.val && l.state == .rotaOff) .waiting .rotaInclude
    (fun _ _ => rfl) e
  refine (congrArg Load.state included).trans ?_
  rw [excluded]
  by_cases h14 : e.val < 14
  · have h14' : ¬ 14 ≤ e.val := by omega
    cases ha : a.getLsbD e.val with
    | true =>
      by_cases hs : s.entryState e = .rotaOff <;>
        simp_all [State.entryState, Load.moved]
    | false =>
      by_cases hm : (s.load e).fields.member = true <;> by_cases ho : s.entryState e = .off <;>
        by_cases hr : s.entryState e = .rotaOff <;> simp_all [State.entryState, Load.moved]
  · have h14' : 14 ≤ e.val := by omega
    simp [h14, h14', State.entryState]

/-- Settles O43. -/
theorem loadTableIsMoved : Obligations.LoadTableIsMoved := by
  refine ⟨fun s hrun => ⟨_, next_running hrun rfl, fun e => ?_⟩,
    fun s a hrun hp => ⟨_, next_running hrun rfl, fun e => entryState_applySlot s a hp e⟩,
    fun s hrun hs => ⟨_, next_running hrun (if_neg hs), entryState_moveEntry_same s _ _ _, ?_,
      fun e he => load_moveEntry_other s _ _ he, rfl, rfl⟩,
    fun s hrun hs => next_running hrun (if_pos hs)⟩
  · rw [entryState_lineLoss]
    cases s.entryState e <;> rfl
  · rw [load_moveEntry_same]
    rfl

/-! ### Timers of the Shed Controller (R102 to R106) -/

/-- The walk of a recovery takes each entry of the list that is SHED for UNDERFREQUENCY to WAITING, and
leaves the others. -/
theorem load_recoverEntries (l : List Entry) (s : State) (e : Entry) :
    (e ∉ l → (l.foldl recoverEntry s).load e = s.load e)
      ∧ (e ∈ l → s.entryState e = .shedUnderfrequency → (l.foldl recoverEntry s).entryState e = .waiting)
      ∧ (s.entryState e = .waiting → (l.foldl recoverEntry s).entryState e = .waiting) := by
  induction l generalizing s with
  | nil => exact ⟨fun _ => rfl, fun h => (List.not_mem_nil h).elim, id⟩
  | cons x xs ih =>
    obtain ⟨others, listed, waiting⟩ := ih (recoverEntry s x)
    have load (hx : e ≠ x) : (recoverEntry s x).load e = s.load e := by
      unfold recoverEntry
      split
      · exact load_moveEntry_other s _ _ hx
      · rfl
    have recovered (hs : s.entryState x = .shedUnderfrequency) : (recoverEntry s x).entryState x = .waiting := by
      unfold recoverEntry
      rw [if_pos hs]
      exact entryState_moveEntry_same s x _ _
    refine ⟨fun hm => ?_, fun hm hs => ?_, fun hs => ?_⟩
    · obtain ⟨hx, hxs⟩ := not_or.mp (List.mem_cons.not.mp hm)
      exact (others hxs).trans (load hx)
    · by_cases hx : e = x
      · subst hx; exact waiting (recovered hs)
      · refine listed ((List.mem_cons.mp hm).resolve_left hx) ?_
        exact (congrArg Load.state (load hx)).trans hs
    · refine waiting ?_
      by_cases hx : e = x
      · subst hx
        unfold recoverEntry
        rwa [if_neg (by rw [hs]; exact EntryState.noConfusion)]
      · exact (congrArg Load.state (load hx)).trans hs

theorem endRecovery_due (s : State) (h : s.recoveryDue = true) :
    s.endRecovery.shc =
        { (s.shc.stack.reverse.foldl recoverEntry s).shc with
          state := .normal, count := 0, stack := [], recovery := none }
      ∧ ∀ e, s.endRecovery.load e = (s.shc.stack.reverse.foldl recoverEntry s).load e := by
  unfold State.endRecovery
  rw [if_pos h]
  dsimp only
  rw [changeShed_eq]
  exact ⟨rfl, fun _ => rfl⟩

theorem shc_restartEntries (s : State) : s.restartEntries.shc = s.shc := by
  refine forEntries_keeps (fun t => t.shc = s.shc) _ _ (fun t e ht lost => ?_) s rfl
  have state : t.entryState e = .shedLineLoss := beq_iff_eq.mp lost
  exact (shc_moveEntry t e _ _ (by rw [state]; exact EntryState.noConfusion)).trans ht

theorem entryState_restartEntries (s : State) (e : Entry) :
    s.restartEntries.entryState e = if s.entryState e = .shedLineLoss then .waiting else s.entryState e :=
  entryState_moveAll s .shedLineLoss .waiting .restart e

theorem entryState_rotaStopEntries (s : State) (e : Entry) :
    s.rotaStopEntries.entryState e = if s.entryState e = .rotaOff then .waiting else s.entryState e :=
  entryState_moveAll s .rotaOff .waiting .rotaStop e

theorem entryState_notice (s : State) (k : NoticeKind) (a b : Nat) (e : Entry) :
    (s.notice k a b).entryState e = s.entryState e := rfl

/-- The Shed Controller with the restart over (R106). -/
def State.restartEnded (s : State) : State :=
  { s with shc := { s.shc with restartPending := false, restart := none } }

theorem endRestart_due (s : State) (h : s.restartDue = true) :
    s.endRestart = s.restartEnded.restartEntries.notice .shedState 0 5 := if_pos h

theorem shc_endRestart (s : State) (h : s.restartDue = true) :
    s.endRestart.shc = { s.shc with restartPending := false, restart := none } := by
  rw [endRestart_due s h, State.notice_shc]
  exact shc_restartEntries s.restartEnded

/-- Settles O45. -/
theorem shedTimersExpire : Obligations.ShedTimersExpire := by
  refine ⟨fun s start hrun hs hr he => ?_, fun s l hrun => next_running hrun rfl,
    fun s start hrun hl he hreg => ?_, fun s c hrun hc hreg hp => ?_, fun s c hrun hc hreg hs => ?_,
    fun s start hrun hr he => ?_⟩
  · have due : s.recoveryDue = true := by
      unfold State.recoveryDue
      rw [ranOut_some hr he, hs]
      rfl
    obtain ⟨shc, load⟩ := endRecovery_due s due
    refine ⟨_, next_running hrun rfl, by rw [shc], by rw [shc], by rw [shc], by rw [shc], fun e hm hu => ?_,
      fun e hm => ?_⟩
    · refine (congrArg Load.state (load e)).trans ?_
      exact (load_recoverEntries _ s e).2.1 (List.mem_reverse.mpr hm) hu
    · exact (load e).trans ((load_recoverEntries _ s e).1 (List.mem_reverse.not.mpr hm))
  · refine next_running hrun ?_
    have due : s.lineLossDue = true := ranOut_some hl he
    rw [if_pos due, hreg]
    simp [State.post, State.notice]
  · refine next_running hrun ?_
    rw [if_pos hc, hreg, hp]
    rfl
  · refine next_running hrun ?_
    rw [if_neg hc, if_pos hreg]
    unfold State.shedLeavesRegulating
    rw [hs]
    dsimp only
    rw [changeShed_eq, if_neg (by rw [hs]; exact ShedState.noConfusion)]
    rfl
  · have due : s.restartDue = true := ranOut_some hr he
    refine ⟨_, next_running hrun rfl, shc_endRestart s due, ?_, ?_⟩ <;> rw [endRestart_due s due]
    · intro e
      rw [entryState_notice]
      exact entryState_restartEntries s.restartEnded e
    · rw [State.notice_posted, List.getLast?_concat]

/-! ### Commands of the rota (R112, R117, R118, R120) -/

theorem pages_set (pages : Vector (Vector AllowedSet 64) 4) (g h : Fin 4) (page : Vector AllowedSet 64) :
    (pages.set g.val page).get h = if h = g then page else pages.get h := by
  split
  · next e => subst e; exact vector_get_set_same _ _ _
  · next e => exact vector_get_set_other _ _ e

theorem slots_set (page : Vector AllowedSet 64) (j k : Fin 64) (a : AllowedSet) :
    (page.set j.val a).get k = if k = j then a else page.get k := by
  split
  · next e => subst e; exact vector_get_set_same _ _ _
  · next e => exact vector_get_set_other _ _ e

theorem slotIx_val (k : Fin 64) : slotIx k.val = k := Fin.ext (Nat.mod_eq_of_lt k.isLt)

theorem slotIx_of_lt {n : Nat} (h : n < 64) : (slotIx n).val = n := Nat.mod_eq_of_lt h

/-- Slots copied from a page stand as on the page, the others as in the buffer (R118). -/
theorem copySlots_get (page buffer : Vector AllowedSet 64) (start n : Nat) (h : start + n ≤ 64) (k : Fin 64) :
    (copySlots page buffer start n).get k =
      if start ≤ k.val ∧ k.val < start + n then page.get k else buffer.get k := by
  unfold copySlots
  induction n with
  | zero => rw [if_neg (by omega)]; rfl
  | succ n ih =>
    rw [List.range_succ, List.foldl_append]
    show ((List.foldl _ buffer (List.range n)).set (slotIx (start + n)).val (page.get (slotIx (start + n)))).get k = _
    rw [slots_set, ih (by omega)]
    by_cases hk : k = slotIx (start + n)
    · have hv : k.val = start + n := by rw [hk, slotIx_of_lt (by omega)]
      rw [if_pos hk, if_pos (by omega), ← hk]
    · have hv : k.val ≠ start + n := fun e => hk (Fin.ext (by rw [slotIx_of_lt (by omega), e]))
      rw [if_neg hk]
      split
      · next hi => rw [if_pos (by omega)]
      · next hi => rw [if_neg (by omega)]

/-- With no slot application announced there is none to take before a stop (log 28). -/
theorem flushSlots_none (s : State) (h : ∀ a, Instr.slotApplication a ∉ s.posted) : s.flushSlots = s := by
  have none (i : Instr) (hi : i ∈ s.posted) : isSlotApplication i = false := by
    cases i with
    | slotApplication a => exact absurd hi (h a)
    | _ => rfl
  have kept : s.posted.filter (fun i => !isSlotApplication i) = s.posted :=
    List.filter_eq_self.mpr fun i hi => by rw [none i hi]; rfl
  have taken : s.posted.filter isSlotApplication = [] :=
    List.filter_eq_nil_iff.mpr fun i hi => by rw [none i hi]; exact Bool.noConfusion
  unfold State.flushSlots
  rw [kept, taken]
  rfl

/-- One slot record written changes that slot alone (R112). -/
theorem writeSlots_one (page : Vector AllowedSet 64) (first : Nat) (hf : first < 64) (set : Half) (k : Fin 64) :
    (writeSlots page first [set]).get k = if k.val = first then set.setWidth 14 else page.get k := by
  refine (slots_set page (slotIx first) k (allowedOf set)).trans ?_
  by_cases hk : k.val = first
  · rw [if_pos (Fin.ext (hk.trans (slotIx_of_lt hf).symm)), if_pos hk]; rfl
  · rw [if_neg (fun e => hk (by rw [e, slotIx_of_lt hf])), if_neg hk]

/-- The half a split writes is the one without the pointer (R118). -/
theorem halfStart_otherHalf (r : Rota) (k : Fin 64) :
    (halfStart r.otherHalf ≤ k.val ∧ k.val < halfStart r.otherHalf + 32) ↔
      ¬ (k.val < 32 ↔ r.pointer.val < 32) := by
  unfold Rota.otherHalf
  split <;> simp only [halfStart] <;> omega

theorem entryState_answer (s : State) (p : Port) (c : Byte) (r : Result) (d : List Byte) (e : Entry) :
    (s.answer p c r d).entryState e = s.entryState e := rfl

/-- The rota idle and its entries taken back, with no slot application outstanding (R120). -/
def State.rotaStopped (s : State) : State :=
  ({ s with rtp := { s.rtp with playing := false, second := none, split := none } } : State).rotaStopEntries

/-- Settles O46. -/
theorem rotaIsCommanded : Obligations.RotaIsCommanded := by
  refine ⟨fun s b first page set hrun hb hf => ?_, fun s b c page tap hrun hb hc => ?_,
    fun s b c page tap hrun hb hc hp h31 h63 => ?_, fun s b c page tap hrun hb hc => ⟨fun hp => ?_, fun hp he => ?_⟩,
    fun s hrun hp hposted => ?_⟩
  · refine ⟨_, next_taken
      (t := { s with rtp := { s.rtp with pages := s.rtp.pages.set page.val (writeSlots (s.rtp.pages.get page) first.toNat [set]) } })
      ⟨hrun, rfl⟩ ?_ Result.noConfusion Result.noConfusion, replied_answer rfl, fun g k => ?_, rfl⟩
    · dsimp only
      rw [hb]
      exact if_pos ⟨hf, Nat.le_refl 1, Nat.le_add_left 1 7, hf⟩
    · refine (congrArg (fun p : Vector AllowedSet 64 => p.get k) (pages_set _ page g _)).trans ?_
      by_cases hg : g = page
      · rw [if_pos hg, writeSlots_one _ _ hf, hg]
        simp only [true_and]
      · rw [if_neg hg, if_neg (fun h => hg h.1)]
  · refine next_taken ⟨hrun, rfl⟩ ?_ Result.noConfusion Result.noConfusion
    dsimp only
    rw [hb, hc]
    rfl
  · refine ⟨_, next_taken (r := .done) (d := [])
      (t := { s with
        rtp :=
          { s.rtp with
            buffer := copySlots (s.rtp.pages.get page) s.rtp.buffer (halfStart s.rtp.otherHalf) 32
            split := some { half := s.rtp.otherHalf, tap := tap, page := page } } })
      ⟨hrun, rfl⟩ ?_ Result.noConfusion Result.noConfusion, ?_, fun k => ?_, ?_, ?_, s.rtp.otherHalf, ?_, ?_⟩
    · dsimp only
      rw [hb, hc]
      dsimp only
      rw [hp, if_neg Bool.noConfusion, if_neg (not_or.mpr ⟨h31, h63⟩)]
      rfl
    · exact replied_answer (requestTime_congr (by dsimp only) (by dsimp only))
    · have half : halfStart s.rtp.otherHalf + 32 ≤ 64 := by cases s.rtp.otherHalf <;> decide
      rw [State.answer_rtp]
      dsimp only
      rw [copySlots_get _ _ _ 32 half k]
      by_cases hk : k.val < 32 ↔ s.rtp.pointer.val < 32
      · rw [if_neg (fun h => (halfStart_otherHalf _ k).mp h hk), if_pos hk]
      · rw [if_pos ((halfStart_otherHalf _ k).mpr hk), if_neg hk]
    · rw [State.answer_rtp]
    · rw [State.answer_rtp]
    · rw [State.answer_rtp]
    · unfold Rota.otherHalf
      split
      · next h => exact ⟨RotaHalf.noConfusion, fun h' => absurd h' (by omega)⟩
      · next h => exact ⟨fun _ => by omega, fun _ => rfl⟩
  · refine next_taken ⟨hrun, rfl⟩ ?_ Result.noConfusion Result.noConfusion
    dsimp only
    rw [hb, hc, hp]
    rfl
  · refine next_taken ⟨hrun, rfl⟩ ?_ Result.noConfusion Result.noConfusion
    dsimp only
    rw [hb, hc, hp]
    dsimp only
    rw [if_neg Bool.noConfusion, if_pos he]
    rfl
  · have body : s.rotaStopped.rtp = { s.rtp with playing := false, second := none, split := none } :=
      frame_rotaStopEntries _ .rota (by simp)
    refine ⟨_, next_taken (t := s.rotaStopped) ⟨hrun, rfl⟩ ?_ Result.noConfusion Result.noConfusion,
      replied_answer ?_, ?_, ?_, ?_, fun e => ?_⟩
    · dsimp only
      rw [hp, if_pos rfl, flushSlots_none s hposted]
      rfl
    · exact requestTime_of_frame (frame_rotaStopEntries _) (by simp) (by simp) .h
    · rw [State.answer_rtp, body]
    · rw [State.answer_rtp, body]
    · rw [State.answer_rtp, body]
    · rw [entryState_answer]
      exact entryState_rotaStopEntries _ e

end Sys2Proof.Machine
end

section
/-! PROOFS. What the commands of the full reset, the Reference Monitor and the Line Monitor do. -/

namespace Sys2Proof.Machine

/-! ### Full reset (R176) -/

theorem enterPhase_relays (s : State) (ph : Phase) (v : Supply) (e : Entry) :
    (s.enterPhase ph v).ltc.relays.get e = false := by
  show (Vector.replicate 16 false).get e = false
  rw [Vector.get_eq_getElem, Vector.getElem_replicate]

/-- Settles O26, each command by what it asserts or releases. -/
theorem fullResetTaken : Obligations.FullResetTaken := by
  refine ⟨fun s x hx => ?_, fun s mv h => ?_, fun s mv hp hv => ?_, fun s mv high h => ?_⟩
  · have asserted : ∃ v, s.assertedBy x = some v ∧ v.cause = (match (generalizing := false) x with
           | .supplyApplied => ResetCause.powerOn
           | .rstLow => .pin
           | .supplyAt _ => if s.supply.released then .brownOut else s.supply.cause) := by
      cases x with
      | supplyApplied => exact ⟨_, rfl, rfl⟩
      | rstLow => exact ⟨_, rfl, rfl⟩
      | supplyAt mv => exact ⟨_, if_pos (hx mv rfl), rfl⟩
    obtain ⟨v, hv, cause⟩ := asserted
    refine ⟨s.enterPhase .held v, ?_, rfl, cause, enterPhase_relays s .held v, rfl, rfl, rfl, rfl, rfl, rfl, rfl⟩
    show Host.Outcome.next _ = _
    rw [hv]
  · have none : s.assertedBy (.supplyAt mv) = none := if_neg (by omega)
    show Host.Outcome.next _ = _
    rw [none]
  · have may : s.mayRelease mv true = true := by
      unfold State.mayRelease
      rw [decide_eq_true hp, decide_eq_true hv]
      rfl
    refine ⟨s.enterPhase .starting { s.supply with released := true }, ?_, rfl, rfl, rfl, rfl, rfl, rfl, rfl, rfl,
      rfl, rfl, rfl⟩
    show Host.Outcome.next (if s.mayRelease mv true then _ else _) = _
    rw [if_pos may]
  · have not : ¬ s.mayRelease mv high = true := by
      unfold State.mayRelease
      rw [Bool.and_eq_true, Bool.and_eq_true, decide_eq_true_eq, decide_eq_true_eq]
      rintro ⟨⟨hp, hv⟩, hh⟩
      rcases h with h | h | h
      · exact h hp
      · omega
      · rw [h] at hh; exact Bool.noConfusion hh
    show Host.Outcome.next (if s.mayRelease mv high then _ else _) = _
    rw [if_neg not]

/-! ### Reference Monitor (R3 to R8) -/

theorem qualifyWindow_good (s : State) (h : s.rfm.goodWindows + 1 ≠ 4096) :
    s.qualifyWindow true =
      { s with rfm := { s.rfm with goodWindows := s.rfm.goodWindows + 1, noGood := none } } := if_neg h

theorem qualifyWindow_last (s : State) (h : s.rfm.goodWindows + 1 = 4096) :
    s.qualifyWindow true =
      (s.post .sourceSwitch).enterReference { state := .crystal, goodWindows := 0, noGood := none } := if_pos h

/-- Two announcements after one another. -/
theorem post_post (s : State) (i j : Instr) : (s.post i).post j = { s with posted := s.posted ++ [i, j] } := by
  unfold State.post
  simp only [List.append_assoc, List.cons_append, List.nil_append]

/-- Settles O28. -/
theorem referenceIsJudged : Obligations.ReferenceIsJudged := by
  refine ⟨fun s n hr hs hn hw => next_released hr ?_, fun s n hr hs hn hw => next_released hr ?_,
    fun s n hr hs hn => next_released hr ?_, fun s n hr hs hn => next_released hr ?_,
    fun s start hr hs hg he => next_released hr ?_⟩
  · rw [hs]
    dsimp only
    rw [show decide (goodCycles ≤ n) = true from decide_eq_true hn, qualifyWindow_good s hw]
  · rw [hs]
    dsimp only
    rw [show decide (goodCycles ≤ n) = true from decide_eq_true hn, qualifyWindow_last s hw]
    simp [State.enterReference, State.notice, State.post, RefState.number]
    rfl
  · rw [hs]
    dsimp only
    rw [show decide (goodCycles ≤ n) = false from decide_eq_false (by unfold goodCycles; omega)]
    rfl
  · rw [hs]
    dsimp only
    rw [if_pos (show n < goodCycles from hn)]
    simp [State.crystalLoss, State.raise, State.ownOf, State.enterReference, State.notice, State.post, RefState.number]
    rfl
  · have due : s.noGoodWindowDue = true := by
      unfold State.noGoodWindowDue
      rw [ranOut_some hg he, decide_eq_true hs]
      rfl
    rw [if_pos due]
    simp [State.raise, State.ownOf, State.enterReference, State.notice, State.post, RefState.number]
    rfl

/-- Settles O29. -/
theorem retryReferenceTaken : Obligations.RetryReferenceTaken := by
  refine ⟨fun s hrun hs => next_taken ⟨hrun, rfl⟩ ?_ Result.noConfusion Result.noConfusion,
    fun s hrun hs => next_taken ⟨hrun, rfl⟩ (if_neg hs) Result.noConfusion Result.noConfusion,
    fun s p hrun hp => next_denied hrun ?_⟩
  · exact if_pos hs
  · cases p with
    | g => exact absurd rfl hp
    | s => rfl
    | h => rfl

/-! ### Line Monitor (R9 to R18) -/

/-- An edge of the other polarity at least 6,000 µs after the last is accepted (R10). -/
theorem acceptsEdge_of_last {s : State} {p : Polarity}
    (h : ∀ x, s.lnm.lastEdge = some x → x.polarity ≠ p ∧ 6000 ≤ s.elapsed x.time) : s.acceptsEdge p = true := by
  unfold State.acceptsEdge
  split
  · rfl
  · next x hx =>
    obtain ⟨pol, late⟩ := h x hx
    rw [decide_eq_true pol, decide_eq_true late]
    rfl

/-- An edge of the same polarity, or too early, is not (R10). -/
theorem acceptsEdge_false {s : State} {p : Polarity} {x : Edge} (hx : s.lnm.lastEdge = some x)
    (h : x.polarity = p ∨ s.elapsed x.time < 6000) : s.acceptsEdge p = false := by
  unfold State.acceptsEdge
  rw [hx]
  dsimp only
  rw [Bool.and_eq_false_iff, decide_eq_false_iff_not, decide_eq_false_iff_not]
  exact h.imp (fun h => not_not.mpr h) Nat.not_le.mpr

/-- An edge of a line that is not absent is recorded (R11). -/
theorem recordEdge_eq (s : State) (p : Polarity) (h : s.lnm.state ≠ .absent) :
    s.recordEdge p =
      { s with
        lnm :=
          { s.lnm with
            lastEdge := some { polarity := p, time := s.timebase }, absence := some s.timebase } } := if_neg h

/-- A valid period of a present line with a full ring (R13, R14). -/
theorem takePeriod_present (s : State) (b c d p : Nat) (a : Nat) (hs : s.lnm.state = .present)
    (hd : s.lnm.discard = false) (hr : s.lnm.ring = [a, b, c, d]) (h1 : 16000 ≤ p) (h2 : p ≤ 25000) :
    s.takePeriod p =
      { s with
        lnm :=
          { s.lnm with
            ring := [b, c, d, p], pLast := some p, invalid := 0, f := frequencyOf (b + c + d + p)
            h := (b + c + d + p) / 8 } }.post
      (.regulationUpdate { period := p, present := some (b + c + d + p, frequencyOf (b + c + d + p)) }) := by
  have sum : [b, c, d, p].sum = b + c + d + p := by simp; omega
  unfold State.takePeriod
  rw [hd, if_neg Bool.noConfusion, if_neg (by omega)]
  unfold State.validPeriod
  rw [if_neg (fun h => absurd (hs.symm.trans h.2) LineState.noConfusion), if_pos hs, hr]
  show State.post { s with lnm := { s.lnm with
            ring := [b, c, d, p], pLast := some p, invalid := 0, f := frequencyOf [b, c, d, p].sum
            h := [b, c, d, p].sum / 8 } } (.regulationUpdate { period := p, present := some ([b, c, d, p].sum, frequencyOf [b, c, d, p].sum) }) = _
  rw [sum]

/-- Settles O30. -/
theorem lineEdgeTaken : Obligations.LineEdgeTaken := by
  refine ⟨fun s pol x hrun hx h => next_running hrun ?_, fun s hrun hs hx => next_running hrun ?_,
    fun s rise a b c d period sum f hrun hs hd hrise hx hr hp h1 h2 hsum hf => next_running hrun ?_⟩
  · rw [acceptsEdge_false hx h]
    rfl
  · have accepted : s.acceptsEdge .falling = true := acceptsEdge_of_last fun x h => by
      obtain ⟨pol, late⟩ := hx x h
      exact ⟨by rw [pol]; exact Polarity.noConfusion, late⟩
    rw [if_pos accepted]
    unfold State.acceptEdge
    rw [recordEdge_eq s _ hs]
    rfl
  · have accepted : s.acceptsEdge .rising = true := acceptsEdge_of_last fun x h => by
      obtain ⟨pol, late⟩ := hx x h
      exact ⟨by rw [pol]; exact Polarity.noConfusion, late⟩
    rw [if_pos accepted]
    unfold State.acceptEdge
    rw [recordEdge_eq s _ (by rw [hs]; exact LineState.noConfusion)]
    unfold State.captureEdge
    dsimp only
    rw [hrise]
    dsimp only
    rw [takePeriod_present _ b c d _ a (by exact hs) (by exact hd) (by exact hr) (by exact hp ▸ h1) (by exact hp ▸ h2)]
    subst hp hsum hf
    exact post_post _ _ _

/-- Settles O31. -/
theorem lineIsLostOrSwitched : Obligations.LineIsLostOrSwitched := by
  refine ⟨fun s start hrun hs ha he => next_running hrun ?_, fun s hr hs => next_released hr ?_,
    fun s hr hs => next_released hr ?_, fun s hr hs => next_released hr ?_⟩
  · have due : s.absenceDue = true := by
      unfold State.absenceDue
      rw [ranOut_some ha he, decide_eq_true hs]
      rfl
    rw [if_pos due]
    dsimp only
    split
    · next hp =>
      simp [State.changeLine, State.raise, State.ownOf, State.postAll, State.notice, State.post,
        LineMonitor.cleared]
      rfl
    · next hp =>
      simp [State.changeLine, State.postAll, State.notice, State.post, LineMonitor.cleared]
      rfl
  · rw [hs]
  · rw [hs]
    dsimp only
    unfold State.clearRing
    dsimp only
    rw [hs]
  · rw [hs]
    dsimp only
    unfold State.clearRing
    dsimp only
    rw [hs]
    simp [State.changeLine, State.postAll, State.notice, State.post, singlePeriodH]
    rfl

end Sys2Proof.Machine
end

section
/-! PROOFS. What the commands of the Ballast Regulator and the Bank Firing Unit do (chapters 2 and 3). -/

namespace Sys2Proof.Machine

/-! ### The update (R28 to R36) -/

/-- A raise made on a condition announces it on the condition. -/
theorem raiseIf_eq (p : Prop) [Decidable p] (s : State) (k : FaultKind) :
    (if p then s.raise k else s) =
      { s with posted := s.posted ++ if p then [.faultRaise ⟨k, s.ownOf k⟩] else [] } := by
  split
  · rfl
  · rw [List.append_nil]

/-- The announcements of an update: its raises, each with the regulator as the update leaves it, and the
record (R33, R36). -/
def State.updatePosts (s : State) (b : Ballast) (r : RegRecord) : List Instr :=
  (if s.raisesSaturated b then [.faultRaise ⟨.ballastSaturated, .ballast b.state b.d b.wd⟩] else [])
    ++ (if s.rtot = 0 then [.faultRaise ⟨.ballastNone, .ballast b.state b.d b.wd⟩] else [])
    ++ [.recordAtFiring r, .recordAtAdmission r, .recordAtShed r, .recordAtTurbine r]

/-- An update is the regulator's stages and its announcements. -/
theorem update_eq (s : State) (f : Nat) (r : RegRecord) (hr : (s.brg.updated f s.timebase).record = some r) :
    s.update f =
      { s with
        brg := s.brg.updated f s.timebase
        posted := s.posted ++ s.updatePosts (s.brg.updated f s.timebase) r } := by
  unfold State.update
  dsimp only
  rw [hr, raiseIf_eq, raiseIf_eq]
  simp only [State.publish, State.postAll, State.ownOf, State.updatePosts, List.append_assoc]

/-- BALLAST SATURATED is raised at a count of 50 below which it was, or whose status is clear (R33). -/
theorem raisesSaturated_iff (s : State) (b : Ballast) :
    s.raisesSaturated b = true ↔
      b.satCount = 50 ∧ (s.brg.satCount < 50 ∨ s.flu.status.getLsbD 6 = false) := by
  unfold State.raisesSaturated
  rw [Bool.and_eq_true, Bool.or_eq_true, Bool.not_eq_true', decide_eq_true_eq, decide_eq_true_eq]
  rfl

/-- The regulator with the line of a period taken (R25). -/
def State.onLine (s : State) (l : LineState) : State := { s with brg := { s.brg with line := l } }

/-- REGULATION_UPDATE of a present line in REGULATING with no transfer waiting is one update. -/
theorem exec_regulationUpdate_update (s : State) (period sum f : Nat) (hp : s.phase = .running)
    (hr : s.brg.state = .regulating) (he : s.brg.active.enable = true) (ht : s.brg.transferEnable = false) :
    exec (.regulationUpdate { period := period, present := some (sum, f) }) s =
      .next ((s.onLine .present).update f) := by
  have none : ¬ (s.onLine .present).brg.transferEnable = true := by
    show ¬ s.brg.transferEnable = true
    rw [ht]; exact Bool.noConfusion
  have update := takeUpdate_regulating (s.onLine .present) f hr rfl (fun h => absurd h none)
  rw [if_neg none] at update
  exact (exec_regulationUpdate_regulating s _ f sum hp hr he rfl).trans (congrArg _ update)

/-- Settles O32. -/
theorem updateIsComputed : Obligations.UpdateIsComputed := by
  intro s period sum f e hp hr he ht hc
  have step := exec_regulationUpdate_update s period sum f hp hr he ht
  rw [update_eq _ _ _ rfl] at step
  obtain rfl : errorOf f s.brg.active.fSet = e := hc.symm
  refine ⟨_, _, step, rfl, hr, rfl, rfl, rfl, ?_, ?_, ?_, rfl, rfl, rfl, rfl, rfl, rfl, rfl, _, _, _, rfl,
    ?_, rfl, rfl⟩
  · exact Int.toNat_of_nonneg (clampInt_le 0 1000 _ (by decide)).1
  · show (_ && _) = true ↔ _
    rw [Bool.and_eq_true, decide_eq_true_eq, decide_eq_true_eq]
    rfl
  · show (_ && _) = true ↔ _
    rw [Bool.and_eq_true, decide_eq_true_eq, decide_eq_true_eq]
    rfl
  · show s.posted ++ State.updatePosts _ _ _ = _
    have state : ((s.onLine .present).brg.updated f (s.onLine .present).timebase).state = .regulating := hr
    unfold State.updatePosts
    simp only [raisesSaturated_iff, state, ← List.append_assoc]
    rfl

/-! ### Transfers and the regulation state (R22 to R27) -/

/-- A transfer gives REGULATION APPLIED (R23). -/
theorem notice_mem_transfer (s : State) (how : Nat) :
    Instr.noticeDelivery .regulationApplied 0 how ∈ (s.transfer how).posted := by
  unfold State.transfer State.giveDemand
  dsimp only
  split <;> simp [State.notice, State.post]

/-- Settling only adds announcements. -/
theorem posted_settle_outside (s : State) (h : s.brg.state ≠ .regulating) :
    s.posted <+: s.settleRegulation.posted := by
  unfold State.settleRegulation
  dsimp only
  rw [if_neg h]
  split
  · exact List.prefix_refl _
  · exact List.prefix_append _ _

/-- The line lost in REGULATING with no transfer waiting: the run is cleared and HOLDING entered (R27). -/
theorem settle_loses (s : State) (hr : s.brg.state = .regulating) (he : s.brg.active.enable = true)
    (ht : s.brg.transferEnable = false) :
    (s.onLine .absent).settleRegulation =
      ({ s with brg := { s.brg.leftRegulating with state := .holding, line := .absent } } : State).announceRegulation := by
  unfold State.settleRegulation State.onLine
  have dest : regStateFor s.brg.active.enable .absent = .holding := by rw [he]; rfl
  dsimp only
  rw [dest, if_neg (by rw [hr]; exact RegState.noConfusion), if_pos hr, if_neg (by rw [ht]; exact Bool.noConfusion)]
  rfl

/-- Settles O34. -/
theorem regulationStatesFollow : Obligations.RegulationStatesFollow := by
  refine ⟨fun s hrun hr => next_taken ⟨hrun, rfl⟩ (if_pos hr) Result.noConfusion Result.noConfusion,
    fun s hrun hr => ?_, fun s hrun hh he => ⟨_, rfl, next_running hrun ?_⟩, fun s hrun hr he ht => ?_⟩
  · have outside : (s.transfer 0).brg.state ≠ .regulating := by rw [transfer_brg]; exact hr
    have settled := settle_outside (s.transfer 0) outside
    rw [transfer_brg] at settled
    refine ⟨_, next_taken (t := (s.transfer 0).settleRegulation) ⟨hrun, rfl⟩ (if_neg hr) Result.noConfusion
      Result.noConfusion, replied_answer ?_, ?_, ?_, ?_, ?_, ?_, ?_⟩
    · exact requestTime_of_frame ((frame_transfer s 0).trans (frame_settleRegulation _)) (by simp) (by simp) _
    case refine_7 =>
      rw [State.answer_posted]
      exact (posted_settle_outside _ outside).subset (notice_mem_transfer s 0)
    all_goals rw [State.answer_brg, settled]
  · have moved : ({ s with brg := { s.brg with line := .present } } : State).settleRegulation =
        ({ s with brg := { s.brg with line := .present } } : State).enterRegulation .regulating := by
      unfold State.settleRegulation
      dsimp only
      rw [hh, he]
      rfl
    rw [if_neg LineState.noConfusion, moved]
    rfl
  · refine ⟨_, next_running hrun (if_pos rfl), ?_, ?_⟩
    · have frame : (s.onLine .absent).settleRegulation.startDemand = { s with
          brg := (s.onLine .absent).settleRegulation.startDemand.brg
          posted := (s.onLine .absent).settleRegulation.startDemand.posted } := by
        rw [settle_loses s hr he ht]
        unfold State.startDemand State.giveChange
        dsimp only
        split <;> rfl
      exact frame
    · refine (startDemand_brg (s.onLine .absent).settleRegulation).trans ?_
      rw [settle_loses s hr he ht]
      rfl

/-! ### Firing (R38 to R49) -/

/-- A rising half-cycle start latches the next allocation (R46). -/
theorem latch_rising (u : Firing) (c : HalfCycle) (q : PerBank Nat) (hq : u.next = some q)
    (hc : c.polarity = .rising) :
    u.latch c = { u with current := some { h := c.h, banks := q.map (bankSetOf c.h) } } := by
  unfold Firing.latch
  split
  · next n hn =>
    obtain rfl : q = n := Option.some.inj (hq.symm.trans hn)
    rw [if_pos (.inl hc)]
  · next hn => exact absurd (hq.symm.trans hn) (Option.some_ne_none q)

/-- A bank of enough demand is filled (R41). -/
theorem fillBank_full (left : Nat) (b : BankParams) (ha : b.available = true) (hr : 0 < b.rating)
    (h : b.rating ≤ left) : fillBank left b = (1000, left - b.rating) := by
  unfold fillBank
  rw [if_neg (by simp [ha]; omega), if_pos h]

/-- A bank the demand does not fill leaves nothing (R41). -/
theorem fillBank_part (left : Nat) (b : BankParams) (ha : b.available = true) (hr : 0 < b.rating)
    (h : left < b.rating) : (fillBank left b).2 = 0 := by
  unfold fillBank
  rw [if_neg (by simp [ha]; omega), if_neg (by omega)]
  split <;> rfl

/-- Of nothing left, nothing is taken (R41). -/
theorem fillBank_zero (b : BankParams) : fillBank 0 b = (0, 0) := by
  unfold fillBank
  split
  · rfl
  · next h =>
    have rating : b.rating ≠ 0 := fun h0 => h (by simp [h0])
    rw [if_neg (by omega), if_neg (Nat.lt_irrefl 0)]

/-- Settles O35. -/
theorem banksAreFired : Obligations.BanksAreFired := by
  refine ⟨fun s r hrun => next_running hrun rfl, fun s d wd banks hrun => ?_, fun s c hrun => ?_,
    fun s hrun => next_running hrun ?_, fun s q now h hrun hf hq => next_running hrun ?_,
    fun s b due hrun hd he => next_running hrun ?_, fun s b due hrun hd he => next_running hrun (if_pos (ranOut_some hd he)),
    fun h q hm => ?_, fun wd banks ha hr => ⟨fun h => ?_, fun h => ?_⟩⟩
  · obtain ⟨state, gates, next, hbanks, reg, line, firing, off⟩ :=
      firing_settle ({ s.bfu with banks := banks }.demand wd)
    refine ⟨_, next_running hrun rfl, rfl, hbanks, next, gates, fun h => ?_⟩
    have due : ({ s.bfu with banks := banks }.demand wd).due = .off := if_neg (fun hx => hx.2.2 h)
    exact ⟨state.trans due, (off due).1⟩
  · obtain ⟨state, gates, next, hbanks, reg, line, firing, off⟩ :=
      firing_settle ({ s.bfu with reg := c.state }.demand c.wd)
    refine ⟨_, next_running hrun rfl, rfl, reg, next, gates, fun h1 h2 h3 => ?_⟩
    have due : ({ s.bfu with reg := c.state }.demand c.wd).due = .firing := if_pos ⟨h1, h2, h3⟩
    exact ⟨state.trans due, (firing due).1⟩
  · have due : ({ s.bfu with line := .absent } : Firing).due = .off := if_neg (fun hx => hx.2.1 rfl)
    unfold Firing.settle
    rw [due]
  · rw [if_pos hf]
    rw [latch_rising s.bfu _ q hq rfl]
    rfl
  · have isDue : s.pulseIsDue b = true := by
      unfold State.pulseIsDue
      rw [hd]
      exact decide_eq_true he
    rw [if_pos isDue, hd]
  · obtain ⟨delay, low, high⟩ := fired_delay h q hm
    exact ⟨_, delay, low, high⟩
  · exact congrArg Prod.fst (fillBank_full wd banks.b0 ha hr h)
  · show (fillBank (fillBank wd banks.b0).2 banks.b1).1 = 0
      ∧ (fillBank (fillBank (fillBank wd banks.b0).2 banks.b1).2 banks.b2).1 = 0
    rw [fillBank_part wd banks.b0 ha hr h, fillBank_zero, fillBank_zero]
    exact ⟨rfl, rfl⟩

end Sys2Proof.Machine
end

section
/-! PROOFS. What the timers of the Admission Unit do (R59, R63, R68), and what a regulation record does at the
Shed Controller (R96 to R100). -/

namespace Sys2Proof.Machine

/-! ### Settle window, last grant time, saw wait -/

/-- The record of a slot whose settle window has run out (R59). -/
theorem expiredRecord_some {s : State} {r : Reservation} {k : Fin 4}
    (h : s.adu.table.filter (fun x => x.slot = k) = [r])
    (hw : s.settings.admission.settleWindow * 1000 ≤ s.elapsed r.time) : s.expiredRecord k = some r := by
  have split := List.find?_filter (xs := s.adu.table) (p := fun x => decide (x.slot = k))
    (q := fun x => decide (s.settings.admission.settleWindow * 1000 ≤ s.elapsed x.time))
  rw [h, List.find?_singleton, if_pos (decide_eq_true hw)] at split
  refine (congrArg (fun p => List.find? p s.adu.table) (funext fun x => ?_)).trans split.symm
  exact Bool.eq_iff_iff.mpr (by simp)

/-- A record whose entry is RESERVED ends with the entry's move to ON. -/
theorem endReservation_reserved (s : State) (r : Reservation) (c : MoveCause) {k : Fin 4}
    (hs : s.entryState r.entry = .reserved k) :
    s.endReservation r c =
      (s.withTable (s.adu.table.filter fun x => x.slot ≠ r.slot)).moveEntry r.entry .on c :=
  if_pos (show (s.entryState r.entry).isReserved = true by rw [hs]; rfl)

/-- A move from RESERVED to ON takes the entry's records off the table, and leaves the rest of the Admission
Unit (R60). -/
theorem adu_moveEntry_reserved (s : State) (e : Entry) (d : EntryState) (c : MoveCause) {k : Fin 4}
    (hs : s.entryState e = .reserved k) (hd : d ≠ .waiting) :
    (s.moveEntry e d c).adu = { s.adu with table := s.adu.table.filter fun x => x.entry ≠ e } := by
  show s.admissionAfterMove e d = _
  unfold State.admissionAfterMove
  rw [hs]
  cases d <;> first | rfl | exact absurd rfl hd

/-- The saw at SAW OFF with nothing displaced (R136). -/
theorem reachOff_empty (s : State) (w : Saw) (c : SawCause) (h : s.adu.displaced = []) :
    s.reachOff w c =
      { s with
        sws := { w with stage := .off }
        posted := s.posted ++ [.noticeDelivery .sawStage 14 (0 + 16 * c.number), .sawStoppedReport] } := by
  unfold State.reachOff
  rw [returnDisplaced_none (s.changeStage { w with stage := .off } c) h]
  exact post_post _ _ _

/-- Settles O38. -/
theorem admissionTimersExpire : Obligations.AdmissionTimersExpire := by
  refine ⟨fun s r slot hrun hr hslot hone hs hw => ?_, fun s last hrun hl he => next_running hrun (if_pos (ranOut_some hl he)),
    fun s q hrun hq href he hs hstage hnone => ?_⟩
  · have expired : s.expireSlot slot = s.expireRecord r := by
      unfold State.expireSlot
      rw [expiredRecord_some hone hw]
    have ended := endReservation_reserved s r .notSeen hs
    have table := adu_moveEntry_reserved (s.withTable (s.adu.table.filter fun x => x.slot ≠ r.slot)) r.entry .on
      .notSeen hs EntryState.noConfusion
    rw [← ended] at table
    have loads : ∀ x, (s.expireRecord r).load x =
        if x = r.entry then { (s.endReservation r .notSeen).load x with notSeen := true }
        else (s.endReservation r .notSeen).load x := by
      intro x
      split
      · next h => subst h; exact load_setLoad_same _ _ _
      · next h => exact load_setLoad_other _ _ h
    refine ⟨_, next_running hrun expired, ?_, ?_, fun x hx => ?_, ?_, fun x hx => ?_, ?_⟩
    · rw [State.entryState, loads, if_pos rfl, ended, load_moveEntry_same]
    · rw [loads, if_pos rfl]
    · have mem : x ∈ (s.endReservation r .notSeen).adu.table := hx
      rw [table] at mem
      have kept := (List.mem_filter.mp (List.mem_filter.mp mem).1).2
      exact hslot ▸ of_decide_eq_true kept
    · show (s.endReservation r .notSeen).adu.queue = _
      rw [table]
      rfl
    · rw [loads, if_neg hx, ended]
      exact load_moveEntry_other _ _ _ hx
    · show (s.endReservation r .notSeen).posted ++ _ ++ _ = _
      rw [ended, State.moveEntry_posted, List.append_assoc, List.append_assoc]
      rfl
  · have due : s.sawWaitDue = true := by
      unfold State.sawWaitDue State.sawWait
      rw [hq]
      dsimp only [Option.bind]
      rw [href, if_neg Bool.noConfusion]
      exact ranOut_some rfl he
    have stopped := (stop_waiting s .waitExpired hstage).trans (reachOff_empty s _ _ hnone)
    have act : s.expireSawWait = ({ s with
        sws := { s.sws with stage := .off, lastStop := some .waitExpired }
        posted := s.posted ++ [.noticeDelivery .sawStage 14 (0 + 16 * 8), .sawStoppedReport] } : State).refuseSaw.notice
          .sawRefused 14 s.settings.admission.sawWaitLimit := by
      unfold State.expireSawWait
      rw [if_pos due, if_pos hs]
      dsimp only
      rw [if_pos hstage, stopped]
      rfl
    refine ⟨_, next_running hrun act, rfl, rfl, ?_, ?_⟩
    · show ({ s.adu with saw := s.adu.saw.map _ } : Admission) = _
      rw [hq]
      rfl
    · exact List.append_assoc _ _ _

end Sys2Proof.Machine
end

section
/-! PROOFS. What a regulation record does at the Shed Controller (R96 to R100). -/

namespace Sys2Proof.Machine

theorem fastFlag_iff (f : Nat) (r : RegRecord) : fastFlag f r = true ↔ r.f ≤ f ∧ r.e < 0 := by
  unfold fastFlag
  rw [Bool.and_eq_true, decide_eq_true_eq, decide_eq_true_eq]

theorem shortFlag_iff (m : Nat) (r : RegRecord) : shortFlag m r = true ↔ r.d = 0 ∧ r.e ≤ -(m : Int) := by
  unfold shortFlag
  rw [Bool.and_eq_true, decide_eq_true_eq, decide_eq_true_eq]

/-- A move of an energised entry to a state other than WAITING: its record of the table ends, and nothing else
at the Admission Unit and the Shed Controller changes. -/
theorem moveEntry_energised (s : State) (e : Entry) (d : EntryState) (c : MoveCause)
    (he : (s.entryState e).energised = true) (hd : d ≠ .waiting) :
    s.moveEntry e d c =
      { s with
        ltc := { s.ltc with loads := (s.moveEntry e d c).ltc.loads, relays := (s.moveEntry e d c).ltc.relays }
        adu :=
          { s.adu with
            table :=
              if (s.entryState e).isReserved then s.adu.table.filter (fun x => x.entry ≠ e) else s.adu.table }
        posted := s.posted ++ [.noticeDelivery .entryChanged e.val (d.number + 16 * c.number)] } := by
  have shc : (s.moveEntry e d c).shc = s.shc := shc_moveEntry s e d c (fun h => by rw [h] at he; exact Bool.noConfusion he)
  have adu : (s.moveEntry e d c).adu = { s.adu with table :=
      if (s.entryState e).isReserved then s.adu.table.filter (fun x => x.entry ≠ e) else s.adu.table } := by
    cases hs : s.entryState e with
    | reserved k => exact adu_moveEntry_reserved s e d c hs hd
    | on => exact adu_moveEntry_idle s e d c (by rw [hs]; decide) hd
    | _ => rw [hs] at he; exact Bool.noConfusion he
  rw [← shc, ← adu]
  rfl

/-- A record at which one entry is shed, by FAST or by SHORT at the limit (R98, R99). -/
def State.shedTo (s : State) (fast : Bool) : State :=
  s.shedOne.changeShed
    { s.shedOne.shc with
      state := .shedding, count := 0, recovery := if fast then none else s.shedOne.shc.recovery }

/-- The record that sheds: FAST in any state, SHORT at the limit in CONFIRMING or SHEDDING. -/
theorem exec_recordAtShed_sheds (s : State) (r : RegRecord) (fast : Bool) (hrun : s.phase = .running)
    (hf : fast = true ↔ r.f ≤ s.settings.admission.fastShedF ∧ r.e < 0)
    (hshort : fast = false →
      r.d = 0 ∧ r.e ≤ -(s.settings.admission.shedMargin : Int)
        ∧ (s.shc.state = .confirming ∨ s.shc.state = .shedding)
        ∧ s.settings.admission.confirmLimit ≤ s.shc.count + 1) :
    exec (.recordAtShed r) s = .next (s.shedTo fast) := by
  refine next_running hrun ?_
  cases fast with
  | true => exact if_pos ((fastFlag_iff _ r).mpr (hf.mp rfl))
  | false =>
    obtain ⟨hd, he, hstate, hlimit⟩ := hshort rfl
    rw [if_neg (fun h => Bool.noConfusion (hf.mpr ((fastFlag_iff _ r).mp h))),
      if_pos ((shortFlag_iff _ r).mpr ⟨hd, he⟩)]
    have counted : s.countShort = s.shedTo false := if_pos hlimit
    unfold State.shedShort
    rcases hstate with h | h <;> rw [h] <;> exact counted

/-- A record that sheds leaves the entry shed, and then the Shed Controller in SHEDDING. -/
theorem shedTo_eq (s : State) (fast : Bool) (h : s.shedOne.shc.state = s.shc.state) :
    s.shedTo fast =
      { s.shedOne with
        shc :=
          { s.shedOne.shc with
            state := .shedding, count := 0, recovery := if fast then none else s.shedOne.shc.recovery }
        posted :=
          s.shedOne.posted
            ++ (if s.shc.state = .shedding then [] else [.noticeDelivery .shedState 0 ShedState.shedding.number]) } := by
  unfold State.shedTo
  rw [changeShed_eq, h]
  simp only [eq_comm]

section
variable {s : State} {r : RegRecord} {fast : Bool}

theorem shedOne_none (h : s.shedChoice = none) :
    s.shedOne = s.post (.faultRaise ⟨.shedExhausted, .shed .shedding⟩) := by
  unfold State.shedOne
  rw [h]

theorem shedOne_circuit {e : Entry} (h : s.shedChoice = some e) (he : e ≠ sawEntry) : s.shedOne = s.shedOnto e := by
  unfold State.shedOne
  rw [h]
  exact if_neg he

theorem shedOne_saw (h : s.shedChoice = some sawEntry) :
    s.shedOne = (s.moveEntry sawEntry .off .shed).stopSaw .shed := by
  unfold State.shedOne
  rw [h]
  exact if_pos rfl

theorem energised_of_choice {e : Entry} (h : s.shedChoice = some e) : (s.entryState e).energised = true :=
  List.find?_some (p := fun x => (s.entryState x).energised) h

/-- A record that sheds, with no entry to shed (R100). -/
theorem shedTo_none (h : s.shedChoice = none) :
    s.shedTo fast =
      { s with
        shc := { s.shc with state := .shedding, count := 0, recovery := if fast then none else s.shc.recovery }
        posted :=
          s.posted ++ [.faultRaise ⟨.shedExhausted, .shed .shedding⟩]
            ++ (if s.shc.state = .shedding then [] else [.noticeDelivery .shedState 0 ShedState.shedding.number]) } := by
  have one := shedOne_none h
  rw [shedTo_eq s fast (by rw [one]; rfl), one]
  rfl

/-- A record that sheds a circuit: its entry is SHED for UNDERFREQUENCY and on the stack (R100, R101). -/
theorem shedTo_circuit {e : Entry} (h : s.shedChoice = some e) (he : e ≠ sawEntry) :
    let t := s.shedTo fast
    let m := s.moveEntry e .shedUnderfrequency .shed
    t = { s with
        ltc := { s.ltc with loads := m.ltc.loads, relays := m.ltc.relays }
        adu :=
          { s.adu with
            table :=
              if (s.entryState e).isReserved then s.adu.table.filter (fun x => x.entry ≠ e) else s.adu.table }
        shc :=
          { s.shc with
            state := .shedding, count := 0, stack := s.shc.stack ++ [e]
            recovery := if fast then none else s.shc.recovery }
        posted :=
          s.posted ++ [.noticeDelivery .entryChanged e.val (4 + 16 * 7)]
            ++ (if s.shc.state = .shedding then [] else [.noticeDelivery .shedState 0 ShedState.shedding.number]) } := by
  have one := shedOne_circuit h he
  have moved := moveEntry_energised s e .shedUnderfrequency .shed (energised_of_choice h) EntryState.noConfusion
  dsimp only
  rw [shedTo_eq s fast (by rw [one]; rfl), one]
  unfold State.shedOnto
  rw [moved]
  rfl

/-- A record that sheds the saw: its entry is OFF, the saw told to stop (R76). -/
theorem shedTo_saw (h : s.shedChoice = some sawEntry) :
    let t := s.shedTo fast
    let m := s.moveEntry sawEntry .off .shed
    t = { s with
        ltc := { s.ltc with loads := m.ltc.loads, relays := m.ltc.relays }
        adu :=
          { s.adu with
            table :=
              if (s.entryState sawEntry).isReserved then s.adu.table.filter (fun x => x.entry ≠ sawEntry)
              else s.adu.table }
        shc := { s.shc with state := .shedding, count := 0, recovery := if fast then none else s.shc.recovery }
        posted :=
          s.posted ++ [.noticeDelivery .entryChanged 14 (0 + 16 * 7), .stopFromLoadTable .shed]
            ++ (if s.shc.state = .shedding then [] else [.noticeDelivery .shedState 0 ShedState.shedding.number]) } := by
  have one := shedOne_saw h
  have moved := moveEntry_energised s sawEntry .off .shed (energised_of_choice h) EntryState.noConfusion
  dsimp only
  rw [shedTo_eq s fast (by rw [one]; rfl), one, moved]
  show ({ s with ltc := _, adu := _, shc := _, posted := (s.posted ++ [_]) ++ [_] ++ _ } : State) = _
  rw [List.append_assoc s.posted]
  rfl

end

/-- At a record without FAST the Shed Controller counts SHORT (R99). -/
theorem exec_recordAtShed_short (s : State) (r : RegRecord) (hrun : s.phase = .running)
    (hf : s.settings.admission.fastShedF < r.f ∨ 0 ≤ r.e) (hd : r.d = 0)
    (he : r.e ≤ -(s.settings.admission.shedMargin : Int)) : exec (.recordAtShed r) s = .next s.shedShort := by
  refine next_running hrun ?_
  rw [if_neg (fun h => ?_), if_pos ((shortFlag_iff _ r).mpr ⟨hd, he⟩)]
  have := (fastFlag_iff _ r).mp h
  omega

/-- At a record without either it ends what it began (R99). -/
theorem exec_recordAtShed_neither (s : State) (r : RegRecord) (hrun : s.phase = .running)
    (hf : s.settings.admission.fastShedF < r.f ∨ 0 ≤ r.e)
    (hs : 0 < r.d ∨ -(s.settings.admission.shedMargin : Int) < r.e) :
    exec (.recordAtShed r) s = .next s.shedNeither := by
  refine next_running hrun ?_
  rw [if_neg (fun h => ?_), if_neg (fun h => ?_)]
  · have := (shortFlag_iff _ r).mp h
    omega
  · have := (fastFlag_iff _ r).mp h
    omega

/-- Settles O44. -/
theorem recordsAreShedBy : Obligations.RecordsAreShedBy := by
  refine ⟨fun s r e hrun hf he hc hsaw => ?_,
    fun s r fast change hrun hf hshort hchange => ⟨fun e hc hsaw => ?_, fun hc => ?_, fun hc => ?_⟩,
    fun s r hrun hf he hc hs => ?_, fun s r hrun hf hd he hs => ?_, fun s r hrun hf hd he hs hcount => ?_,
    fun s r hrun hf hn hs => ?_, fun s r hrun hf hn hs => ?_, fun s r hrun hf hd he hs => ?_,
    fun s r hrun hf hn hs => ?_⟩
  · have step := exec_recordAtShed_sheds s r true hrun ⟨fun _ => ⟨hf, he⟩, fun _ => rfl⟩ Bool.noConfusion
    rw [shedTo_circuit hc hsaw] at step
    exact ⟨_, step, entryState_moveEntry_same s e .shedUnderfrequency .shed,
      relay_moveEntry_same s e .shedUnderfrequency .shed,
      fun x hx => load_moveEntry_other s .shedUnderfrequency .shed hx, rfl, rfl, rfl, rfl, rfl⟩
  · have step := exec_recordAtShed_sheds s r fast hrun hf hshort
    rw [shedTo_circuit hc hsaw] at step
    subst hchange
    exact ⟨_, step, rfl, entryState_moveEntry_same s e .shedUnderfrequency .shed,
      relay_moveEntry_same s e .shedUnderfrequency .shed,
      fun x hx => ⟨load_moveEntry_other s .shedUnderfrequency .shed hx,
        relay_moveEntry_other s .shedUnderfrequency .shed hx⟩, rfl, rfl, rfl⟩
  · have step := exec_recordAtShed_sheds s r fast hrun hf hshort
    rw [shedTo_saw hc] at step
    subst hchange
    refine ⟨_, step, rfl, entryState_moveEntry_same s sawEntry .off .shed, ?_,
      fun x hx => ⟨load_moveEntry_other s .off .shed hx, relay_moveEntry_other s .off .shed hx⟩, rfl, fun hr x hx => ?_, rfl⟩
    · exact congrArg (fun l : Load => l.fields.wanted) (load_moveEntry_same s sawEntry .off .shed)
    · rw [if_pos hr] at hx
      exact of_decide_eq_true (List.mem_filter.mp hx).2
  · rw [exec_recordAtShed_sheds s r fast hrun hf hshort, shedTo_none hc, hchange]
  · rw [exec_recordAtShed_sheds s r true hrun ⟨fun _ => ⟨hf, he⟩, fun _ => rfl⟩ Bool.noConfusion, shedTo_none hc,
      if_pos hs, List.append_nil, if_pos rfl, ← hs]
  · rw [exec_recordAtShed_short s r hrun hf hd he]
    unfold State.shedShort
    rw [hs]
    dsimp only
    rw [changeShed_eq, hs]
    rfl
  · rw [exec_recordAtShed_short s r hrun hf hd he]
    have counted : s.countShort = { s with shc := { s.shc with count := s.shc.count + 1 } } :=
      if_neg (Nat.not_le.mpr hcount)
    unfold State.shedShort
    rcases hs with h | h <;> rw [h] <;> exact congrArg _ counted
  · rw [exec_recordAtShed_neither s r hrun hf hn]
    unfold State.shedNeither
    rw [hs]
    dsimp only
    rw [changeShed_eq, hs]
    rfl
  · rw [exec_recordAtShed_neither s r hrun hf hn]
    unfold State.shedNeither
    rw [hs]
    dsimp only
    rw [changeShed_eq, hs]
    rfl
  · rw [exec_recordAtShed_short s r hrun hf hd he]
    unfold State.shedShort
    rw [hs]
    dsimp only
    rw [changeShed_eq, hs]
    rfl
  · rw [exec_recordAtShed_neither s r hrun hf hn]
    unfold State.shedNeither
    rcases hs with h | h <;> rw [h]

end Sys2Proof.Machine
end

section
/-! PROOFS. What a regulation record does at the Admission Unit (R56, R58, R63, R64, R66). -/

namespace Sys2Proof.Machine

/-- A move out of WAITING, to a state with no place of its own, takes the entry off the queue, and the saw
request with entry 14 (R62). -/
theorem adu_moveEntry_waiting (s : State) (e : Entry) (d : EntryState) (c : MoveCause)
    (hs : s.entryState e = .waiting) (hd : d ≠ .waiting) :
    (s.moveEntry e d c).adu =
      { s.adu with queue := s.adu.queue.erase e, saw := if e = sawEntry then none else s.adu.saw } := by
  show s.admissionAfterMove e d = _
  unfold State.admissionAfterMove
  rw [hs]
  cases d <;> first | rfl | exact absurd rfl hd

/-- The table and the lists after a grant of a waiting entry (R64). -/
theorem granted_waiting (s : State) (e : Entry) (k : Fin 4) (r : RegRecord) (hs : s.entryState e = .waiting) :
    s.granted e k r =
      { s with
        ltc :=
          { s.ltc with loads := (s.granted e k r).ltc.loads, relays := (s.granted e k r).ltc.relays }
        adu :=
          { s.adu with
            queue := s.adu.queue.erase e, saw := if e = sawEntry then none else s.adu.saw
            table := insertRecord (s.recordFor e k r) s.adu.table, lastGrant := some r.time }
        posted := s.posted ++ [.noticeDelivery .entryChanged e.val (2 + 16 * 4)] } := by
  have waits : (s.setLoad e { s.load e with notSeen := false }).entryState e = .waiting :=
    (congrArg Load.state (load_setLoad_same s e _)).trans hs
  have adu := adu_moveEntry_waiting _ e (.reserved k) .grant waits EntryState.noConfusion
  have shc := shc_moveEntry _ e (.reserved k) .grant (show State.entryState _ e ≠ _ by
    rw [waits]; exact EntryState.noConfusion)
  show ({ s with ltc := _, adu := _, shc := _, posted := _ } : State) = _
  unfold State.granted
  rw [shc, adu]
  rfl

/-- The queue examined with an entry at its head and a free slot (R63). -/
theorem examine_head (s : State) (r : RegRecord) {e : Entry} {rest : List Entry} {k : Fin 4}
    (hq : s.examined = e :: rest) (hk : freeSlot s.adu.table = some k) (hm : s.mayExamine = true) :
    s.examine r =
      if 0 ≤ s.headroom - s.grantWatts e then s.grant e k r
      else if s.mayDisplace e then s.displace (-(s.headroom - s.grantWatts e))
      else s := by
  unfold State.examine
  rw [hq, hk]
  exact if_pos hm

/-- The conditions of an examination (R63). -/
theorem mayExamine_of {s : State} (four : s.adu.table.length < 4) (spacing : s.spacingElapsed = true)
    (shed : s.shc.state = .normal ∨ s.shc.state = .confirming) (latch : s.tsv.latch = false) :
    s.mayExamine = true := by
  unfold State.mayExamine
  simp only [Bool.and_eq_true, Bool.or_eq_true, beq_iff_eq, Bool.not_eq_true', decide_eq_true_eq]
  exact ⟨⟨⟨four, spacing⟩, shed⟩, latch⟩

/-- With the trip latch set, or nothing queued, an examination does nothing (R63). -/
theorem examine_idle (s : State) (r : RegRecord) (h : s.adu.queue = [] ∨ s.tsv.latch = true) : s.examine r = s := by
  unfold State.examine
  split
  · next e rest k hq hk =>
    rcases h with h | h
    · have : s.examined = [] := by
        unfold State.examined
        split <;> rw [h]
        rfl
      rw [this] at hq
      exact absurd hq.symm (List.cons_ne_nil _ _)
    · refine if_neg fun hm => ?_
      have := (mayExamine_conditions hm).2.2
      rw [h] at this
      exact Bool.noConfusion this
  · rfl

/-- A floor taken (R56 stage 1). -/
def State.atFloor (s : State) (w : Nat) : State := { s with adu := { s.adu with floor := w } }

/-- A record at which nothing arrives goes on to the examination (R56). -/
theorem exec_recordAtAdmission_examines (s : State) (r : RegRecord) (hrun : s.phase = .running)
    (h : ∀ x ∈ s.adu.table, ¬ ((x.watts + 1) / 2 : Nat) ≤ (x.wdRef : Int) - r.wd) :
    exec (.recordAtAdmission r) s = .next ((s.atFloor r.floor).examine r) := by
  refine next_running hrun (congrArg (fun u : State => u.examine r) ?_)
  exact arrivals_none (s.atFloor r.floor) r.wd fun x hx => decide_eq_false (h x hx)

/-- A grant of a waiting circuit (R64). -/
theorem grant_circuit (s : State) (e : Entry) (k : Fin 4) (r : RegRecord) (he : e ≠ sawEntry) :
    s.grant e k r = s.granted e k r := by
  rw [grant_eq, if_neg he]

theorem grant_saw (s : State) (k : Fin 4) (r : RegRecord) :
    s.grant sawEntry k r = (s.granted sawEntry k r).post .beginSignal := by
  rw [grant_eq, if_pos rfl]

/-- The entries of a grant (R64). -/
theorem granted_entries (s : State) (e : Entry) (k : Fin 4) (r : RegRecord) :
    (s.granted e k r).entryState e = .reserved k ∧ ((s.granted e k r).load e).notSeen = false
      ∧ (s.granted e k r).ltc.relays.get e = decide (e ≠ sawEntry)
      ∧ ∀ x : Entry, x ≠ e →
          (s.granted e k r).load x = s.load x ∧ (s.granted e k r).ltc.relays.get x = s.ltc.relays.get x := by
  refine ⟨entryState_moveEntry_same _ e (.reserved k) .grant, ?_, ?_, fun x hx => ⟨?_, ?_⟩⟩
  · refine (congrArg Load.notSeen (load_moveEntry_same _ e (.reserved k) .grant)).trans ?_
    exact congrArg Load.notSeen (load_setLoad_same s e _)
  · exact (relay_moveEntry_same _ e (.reserved k) .grant).trans (Bool.true_and _)
  · exact (load_moveEntry_other _ (.reserved k) .grant hx).trans (load_setLoad_other s _ hx)
  · exact relay_moveEntry_other (s.setLoad e _) (.reserved k) .grant hx

/-- The walk of a displacement at a record, and the saw's mark (R66). -/
theorem displace_eq (s : State) (short : Int) (q : SawRequest) (hq : s.adu.saw = some q) (hn : s.ltc.chain.Nodup) :
    ∃ moved t,
      s.displace short = t
        ∧ t =
          { s with
            adu :=
              { s.adu with displaced := s.adu.displaced ++ moved, saw := some { q with displaced := true } }
            posted := t.posted
            ltc := { s.ltc with loads := t.ltc.loads, relays := t.ltc.relays } }
        ∧ moved <+:
            s.ltc.chain.filter (fun e => decide (s.entryState e = .on) && (s.load e).fields.deferrable)
        ∧ (∀ before last, moved = before ++ [last] →
            ((declaredWatts s before : Nat) : Int) < short ∧ s.adu.displaced.length + before.length < 14)
        ∧ (short ≤ ((declaredWatts s moved : Nat) : Int)
            ∨ moved = s.ltc.chain.filter (fun e => decide (s.entryState e = .on) && (s.load e).fields.deferrable)
            ∨ 14 ≤ s.adu.displaced.length + moved.length)
        ∧ (∀ e ∈ moved, t.entryState e = .displaced ∧ t.ltc.relays.get e = false)
        ∧ (∀ e, e ∉ moved → t.load e = s.load e ∧ t.ltc.relays.get e = s.ltc.relays.get e)
        ∧ t.posted =
            s.posted ++ moved.map (fun e => .noticeDelivery .entryChanged e.val (5 + 16 * 11)) := by
  obtain ⟨moved, whole, front, before, done, taken, others, posted⟩ := foldl_displaceOne short s.ltc.chain s 0 hn
  simp only [Nat.zero_add] at before done
  refine ⟨moved, s.displace short, rfl, ?_, front, before, done, taken, others, posted⟩
  unfold State.displace
  dsimp only
  rw [whole]
  dsimp only
  rw [hq]
  rfl

theorem recordFor_circuit (s : State) {e : Entry} (k : Fin 4) (r : RegRecord) (he : e ≠ sawEntry) :
    s.recordFor e k r =
      { slot := k, entry := e, watts := (s.load e).fields.watts, wdRef := r.wd, time := r.time,
        origin := .restore } := by
  unfold State.recordFor State.grantWatts
  rw [if_neg he, if_neg he]

theorem grantWatts_saw (s : State) {q : SawRequest} (hq : s.adu.saw = some q) : s.grantWatts sawEntry = q.surge := by
  unfold State.grantWatts
  rw [if_pos rfl, hq]
  rfl

theorem recordFor_saw (s : State) (k : Fin 4) (r : RegRecord) {q : SawRequest} (hq : s.adu.saw = some q) :
    s.recordFor sawEntry k r =
      { slot := k, entry := sawEntry, watts := q.surge, wdRef := r.wd, time := r.time, origin := .sawStart } := by
  unfold State.recordFor
  rw [grantWatts_saw s hq, if_pos rfl]

/-- The queue an examination finds while the saw's wait has not expired (R68). -/
theorem examined_waiting (s : State) {q : SawRequest} (hq : s.adu.saw = some q) (hr : q.refused = false) :
    s.examined = s.adu.queue :=
  examined_all s (by unfold State.sawRefused; rw [hq]; exact hr)

/-- The places of a state meet what the releases of a record ask of the table. -/
theorem State.Placed.releases {s : State} (h : s.Placed) :
    (s.adu.table.map (·.slot)).Nodup ∧ (s.adu.table.map (·.entry)).Nodup
      ∧ ∀ x ∈ s.adu.table, ∃ k, s.entryState x.entry = .reserved k := by
  have slots : (s.adu.table.map (·.slot)).Nodup := h.table.2.imp fun h => ne_of_lt h
  have whole : s.adu.table.Nodup := List.Nodup.of_map _ slots
  refine ⟨slots, (List.nodup_map_iff_inj_on whole).mpr fun x hx y hy he => ?_, fun x hx => ⟨x.slot, ?_⟩⟩
  · exact h.table.entry_inj hx hy he
  · exact (h.table.1 x.entry x.slot).mpr ⟨x, hx, rfl, rfl⟩

/-- Settles O36. -/
theorem headIsGranted : Obligations.HeadIsGranted := by
  refine ⟨fun s r e rest slot hrun hq hsaw hs hn hk four spacing shed latch room => ?_,
    fun s r q rest slot hrun hq hreq href hs hn hk four spacing shed latch room => ?_,
    fun s r q rest slot able short hrun hq hreq href hdis hdone hstage hs hchain hn hk four spacing shed latch hable
      hshort hpos => ?_,
    fun s r arrived hrun hlaw hidle harr => ?_⟩
  · have head : ∃ rest', (s.atFloor r.floor).examined = e :: rest' := by
      have queue : (s.atFloor r.floor).adu.queue = e :: rest := hq
      unfold State.examined
      rw [queue]
      split
      · exact ⟨_, List.erase_cons_tail (by simpa using hsaw)⟩
      · exact ⟨rest, rfl⟩
    obtain ⟨rest', head⟩ := head
    have watts : s.grantWatts e = (s.load e).fields.watts := if_neg hsaw
    have fits : 0 ≤ (s.atFloor r.floor).headroom - (s.atFloor r.floor).grantWatts e := by
      show 0 ≤ (r.floor : Int) - s.reserveEff - heldWatts s.adu.table - s.grantWatts e
      rw [watts]
      omega
    have step := exec_recordAtAdmission_examines s r hrun hn
    rw [examine_head (s.atFloor r.floor) r head hk (mayExamine_of four spacing shed latch), if_pos fits,
      grant_circuit _ e slot r hsaw] at step
    obtain ⟨state, seen, relay, others⟩ := granted_entries (s.atFloor r.floor) e slot r
    rw [granted_waiting (s.atFloor r.floor) e slot r hs] at step
    refine ⟨_, step, rfl, state, seen, relay.trans (decide_eq_true hsaw), others, ?_, rfl, rfl, ?_, rfl⟩
    · show s.adu.queue.erase e = rest
      rw [hq, List.erase_cons_head]
    · refine (mem_insertRecord _ _ _).mpr (.inl ?_)
      exact (recordFor_circuit s slot r hsaw).symm
  · have head : (s.atFloor r.floor).examined = sawEntry :: rest :=
      (examined_waiting (s.atFloor r.floor) hreq href).trans hq
    have fits : 0 ≤ (s.atFloor r.floor).headroom - (s.atFloor r.floor).grantWatts sawEntry := by
      rw [grantWatts_saw (s.atFloor r.floor) hreq]
      show 0 ≤ (r.floor : Int) - s.reserveEff - heldWatts s.adu.table - q.surge
      omega
    have step := exec_recordAtAdmission_examines s r hrun hn
    rw [examine_head (s.atFloor r.floor) r head hk (mayExamine_of four spacing shed latch), if_pos fits,
      grant_saw] at step
    obtain ⟨state, seen, relay, others⟩ := granted_entries (s.atFloor r.floor) sawEntry slot r
    rw [granted_waiting (s.atFloor r.floor) sawEntry slot r hs] at step
    refine ⟨_, step, rfl, state, seen, relay, others, ?_, rfl, rfl, rfl, ?_, ?_⟩
    · show s.adu.queue.erase sawEntry = rest
      rw [hq, List.erase_cons_head]
    · exact (mem_insertRecord _ _ _).mpr (.inl (recordFor_saw s slot r hreq).symm)
    · exact List.append_assoc _ _ _
  · have head : (s.atFloor r.floor).examined = sawEntry :: rest :=
      (examined_waiting (s.atFloor r.floor) hreq href).trans hq
    have room : (s.atFloor r.floor).headroom - (s.atFloor r.floor).grantWatts sawEntry = -short := by
      rw [grantWatts_saw (s.atFloor r.floor) hreq]
      show (r.floor : Int) - s.reserveEff - heldWatts s.adu.table - q.surge = _
      omega
    have may : (s.atFloor r.floor).mayDisplace sawEntry = true := by
      have request : (s.atFloor r.floor).adu.saw = some q := hreq
      have waits : (s.atFloor r.floor).sws.stage = .waiting := hstage
      unfold State.mayDisplace
      rw [request, waits]
      dsimp only [Option.elim]
      rw [hdis, hdone]
      rfl
    have step := exec_recordAtAdmission_examines s r hrun hn
    rw [examine_head (s.atFloor r.floor) r head hk (mayExamine_of four spacing shed latch), room,
      if_neg (by omega), if_pos may, Int.neg_neg] at step
    obtain ⟨moved, t, ht, whole, front, before, done, taken, others, posted⟩ :=
      displace_eq (s.atFloor r.floor) short q hreq hchain
    rw [ht] at step
    subst hable
    refine ⟨t, moved, step, ?_, ?_, front, ?_, done, taken, others, posted⟩
    · have adu := congrArg State.adu whole
      rw [adu]
      exact whole
    · exact congrArg State.adu whole
    · exact before
  · have same : hasArrived r.wd = arrived := funext fun x => (harr x).symm
    obtain ⟨slots, entries, reserved⟩ := (admissionLaw_placed hlaw).releases
    obtain ⟨whole, arrive, others, posted⟩ := foldl_arrive (s.adu.table.filter (hasArrived r.wd))
      (s.atFloor r.floor) List.filter_sublist slots entries fun x hx => reserved x (List.mem_filter.mp hx).1
    have step : exec (.recordAtAdmission r) s = .next (((s.atFloor r.floor).arrivals r.wd).examine r) :=
      next_running hrun rfl
    have released : (s.atFloor r.floor).arrivals r.wd =
      (s.adu.table.filter (hasArrived r.wd)).foldl State.arrive (s.atFloor r.floor) := rfl
    rw [examine_idle _ r ?_, released] at step
    · rw [same] at step whole arrive others posted
      have kept : s.adu.table.filter (fun x => x ∉ s.adu.table.filter arrived) =
          s.adu.table.filter fun x => !arrived x := by
        refine List.filter_congr fun x hx => ?_
        simp only [List.mem_filter, hx, true_and]
        cases arrived x <;> rfl
      have adu := congrArg State.adu whole
      refine ⟨_, step, ?_, ?_, fun x hx ha => arrive x (List.mem_filter.mpr ⟨hx, ha⟩),
        fun e he => others e fun x hx => he x (List.mem_filter.mp hx).1 (List.mem_filter.mp hx).2, posted⟩
      · rw [adu]
        exact whole
      · rw [adu, ← kept]
        rfl
    · rw [released, whole]
      exact hidle

end Sys2Proof.Machine
end

section
/-! PROOFS. Writing the load table (R82 to R88): WRITE ENTRY and FILL ENTRIES. -/

namespace Sys2Proof.Machine

/-! ### The move and the requeue of a write (R86) -/

section
variable (s : State) (e : Entry) (old : Fields)

theorem writeMove_want (h1 : old.wanted = false) (h2 : (s.load e).fields.wanted = true) (h3 : s.entryState e = .off) :
    s.writeMove e old = s.wantEntry e .wantedSet := by
  unfold State.writeMove
  dsimp only
  rw [h1, h2, h3]
  rfl

theorem writeMove_clear (h1 : old.wanted = true) (h2 : (s.load e).fields.wanted = false) (h3 : s.entryState e ≠ .off) :
    s.writeMove e old = s.moveEntry e .off .wantedCleared := by
  unfold State.writeMove
  dsimp only
  rw [h1, h2, beq_eq_false_iff_ne.mpr h3]
  rfl

theorem writeMove_leave (h1 : old.wanted = true) (h2 : (s.load e).fields.wanted = true) (h3 : old.member = true)
    (h4 : (s.load e).fields.member = false) (h5 : s.entryState e = .rotaOff) :
    s.writeMove e old = s.moveEntry e .waiting .memberCleared := by
  unfold State.writeMove
  dsimp only
  rw [h1, h2, h3, h4, h5]
  rfl

theorem writeMove_exclude (h1 : old.wanted = true) (h2 : (s.load e).fields.wanted = true) (h3 : old.member = false)
    (h4 : (s.load e).fields.member = true) (h5 : s.rotaExcludes e = true) (h6 : s.entryState e ≠ .off)
    (h7 : s.entryState e ≠ .rotaOff) : s.writeMove e old = s.moveEntry e .rotaOff .rotaExclude := by
  unfold State.writeMove
  dsimp only
  rw [h1, h2, h3, h4, h5, beq_eq_false_iff_ne.mpr h7, bne_iff_ne.mpr h6, bne_iff_ne.mpr h7]
  rfl

theorem writeMove_none (h1 : (s.load e).fields.wanted = old.wanted)
    (h2 : (s.load e).fields.member = old.member ∨ (s.load e).fields.member = false ∧ s.entryState e ≠ .rotaOff
      ∨ (s.load e).fields.member = true
        ∧ (s.rotaExcludes e = false ∨ s.entryState e = .off ∨ s.entryState e = .rotaOff)) :
    s.writeMove e old = s := by
  unfold State.writeMove
  dsimp only
  rw [h1]
  rw [if_neg (by cases old.wanted <;> simp), if_neg (by cases old.wanted <;> simp), if_neg, if_neg]
  · rcases h2 with h | ⟨h, -⟩ | ⟨h, hx | hx | hx⟩ <;> simp_all
  · rcases h2 with h | ⟨h, hx⟩ | ⟨h, -⟩ <;> simp_all

/-- A write whose entry is not WAITING after its move requeues nothing. -/
theorem writeConsequences_moved {t : State} (hm : s.writeMove e old = t) (ht : t.entryState e ≠ .waiting) :
    s.writeConsequences e old = t := by
  unfold State.writeConsequences
  rw [hm]
  exact if_neg fun h => ht h.2

/-- Nor does one that leaves the essential field. -/
theorem writeConsequences_kept {t : State} (hm : s.writeMove e old = t)
    (he : (t.load e).fields.essential = old.essential) : s.writeConsequences e old = t := by
  subst hm
  exact writeConsequences_same s e old he

/-- A changed essential field requeues a WAITING entry (R62). -/
theorem writeConsequences_requeue (hm : s.writeMove e old = s) (he : (s.load e).fields.essential ≠ old.essential)
    (hw : s.entryState e = .waiting) : s.writeConsequences e old = s.requeue e := by
  unfold State.writeConsequences
  rw [hm]
  exact if_pos ⟨he, hw⟩

end

/-! ### What a stored entry is, before its move -/

theorem load_storeFields_same (s : State) (e : Entry) (f : Fields) :
    (s.storeFields e f).load e = { s.load e with fields := f } := load_setLoad_same s e _

theorem load_storeFields_other (s : State) {e x : Entry} (f : Fields) (h : x ≠ e) :
    (s.storeFields e f).load x = s.load x := load_setLoad_other s _ h

theorem entryState_stored (s : State) (e : Entry) (f : Fields) (x : Entry) :
    (s.storeFields e f).entryState x = s.entryState x := congrFun (entryState_storeFields s e f) x

/-- The fields of a moved entry, when its wanted field is that of its new state. -/
theorem fields_moveEntry_wanted (s : State) (e : Entry) (d : EntryState) (c : MoveCause)
    (h : (s.load e).fields.wanted = decide (d ≠ .off)) :
    ((s.moveEntry e d c).load e).fields = (s.load e).fields := by
  rw [load_moveEntry_same, ← h]

/-- The queue after a move to a state other than WAITING (R62). -/
theorem queue_moveEntry (s : State) (e : Entry) (d : EntryState) (c : MoveCause) (hd : d ≠ .waiting) :
    (s.moveEntry e d c).adu.queue = if s.entryState e = .waiting then s.adu.queue.erase e else s.adu.queue := by
  show (s.admissionAfterMove e d).queue = _
  unfold State.admissionAfterMove
  cases s.entryState e <;> cases d <;> first | rfl | exact absurd rfl hd

/-- The Admission Unit after a move from OFF or ROTA-OFF to WAITING (R61). -/
theorem adu_moveEntry_queued (s : State) (e : Entry) (c : MoveCause)
    (h : s.entryState e = .off ∨ s.entryState e = .rotaOff) :
    (s.moveEntry e .waiting c).adu =
      { s.adu with queue := s.queueWith s.adu.queue e (s.load e).fields.essential } := by
  show s.admissionAfterMove e .waiting = _
  unfold State.admissionAfterMove
  rcases h with h | h <;> rw [h]

/-- An essential entry is placed between the essential ones and the others (R61). -/
theorem insertAfterLast_between (test : Entry → Bool) (e : Entry) (first rest : List Entry)
    (hf : ∀ x ∈ first, test x = true) (hr : ∀ x ∈ rest, test x = false) :
    insertAfterLast test e (first ++ rest) = first ++ e :: rest := by
  induction first with
  | nil =>
    cases rest with
    | nil => rfl
    | cons x xs =>
      have none : ¬ (x :: xs).any test = true := by
        rw [List.any_eq_true]
        rintro ⟨y, hy, ht⟩
        exact Bool.noConfusion ((hr y hy).symm.trans ht)
      exact if_neg none
  | cons x xs ih =>
    have some : (x :: (xs ++ rest)).any test = true :=
      List.any_eq_true.mpr ⟨x, List.mem_cons_self .., hf x (List.mem_cons_self ..)⟩
    refine (if_pos some).trans ?_
    exact congrArg (x :: ·) (ih fun y hy => hf y (List.mem_cons_of_mem _ hy))

/-! ### WRITE ENTRY -/

section
variable {s : State} {p : Port} {b flags m : Byte} {watts : Half} {e : Entry} {after : Fields} {t : State}

/-- A permitted write without conflict stores the masked fields and makes their consequences. -/
theorem exec_writeEntry (hrun : s.phase = .running) (hb : entryOf b = some e) (hw : s.mayWrite p e = true)
    (ha : after = mergeFields (maskOf m) (s.load e).fields (fieldsOf flags watts.toNat))
    (hc : s.writeConflicts e (maskOf m) after = false)
    (ht : (s.storeFields e after).writeConsequences e (s.load e).fields = t) :
    exec (.writeEntry p b flags watts (some m)) s =
      .next (t.answer p RequestName.writeEntry.code (if m.getLsbD 5 && decide (30000 < watts.toNat) then .clamped else .done) []) := by
  subst ha
  have bit : (maskOf m).getLsbD 5 = m.getLsbD 5 := by simp [maskOf]
  have written : s.writeAs p e (maskOf m) (fieldsOf flags watts.toNat) =
      (t, if m.getLsbD 5 && decide (30000 < watts.toNat) then .clamped else .done) := by
    unfold State.writeAs State.writeFields
    rw [if_pos hw]
    dsimp only
    rw [hc, if_neg Bool.noConfusion, ht, bit]
    rfl
  refine next_taken ⟨hrun, rfl⟩ ?_ ?_ ?_
  · dsimp only
    rw [hb]
    dsimp only [Option.map, Option.getD]
    rw [written]
  all_goals split <;> exact Result.noConfusion

end

section
variable {s : State} {p : Port} {b flags m : Byte} {watts : Half} {e : Entry} {after : Fields}

theorem fields_stored : ((s.storeFields e after).load e).fields = after :=
  congrArg Load.fields (load_storeFields_same s e after)

/-- The other entries of a write that moves one stand. -/
theorem load_stored_moved (d : EntryState) (c : MoveCause) {x : Entry} (hx : x ≠ e) :
    ((s.storeFields e after).moveEntry e d c).load x = s.load x :=
  (load_moveEntry_other _ d c hx).trans (load_storeFields_other s after hx)

end

/-- A write whose consequence is a move: the answer, the entry moved with the stored fields, the others as they
were, and what the move makes of the Admission Unit. -/
theorem writeEntry_moves {s : State} {p : Port} {b flags m : Byte} {watts : Half} {e : Entry} {after : Fields}
    {res : Result} (d : EntryState) (c : MoveCause)
    (hrun : s.phase = .running) (hb : entryOf b = some e) (hw : s.mayWrite p e = true)
    (ha : after = mergeFields (maskOf m) (s.load e).fields (fieldsOf flags watts.toNat))
    (hc : s.writeConflicts e (maskOf m) after = false)
    (hres : res = if m.getLsbD 5 && decide (30000 < watts.toNat) then .clamped else .done)
    (hm : (s.storeFields e after).writeMove e (s.load e).fields = (s.storeFields e after).moveEntry e d c)
    (hd : after.wanted = decide (d ≠ .off)) (hk : d ≠ .waiting ∨ after.essential = (s.load e).fields.essential) :
    ∃ t, exec (.writeEntry p b flags watts (some m)) s = .next t ∧ Replied s t p .writeEntry res []
      ∧ t.entryState e = d ∧ (t.load e).fields = after
      ∧ t.ltc.relays.get e = (d.energised && decide (e ≠ sawEntry))
      ∧ (∀ x : Entry, x ≠ e → t.load x = s.load x)
      ∧ t.adu = ((s.storeFields e after).moveEntry e d c).adu
      ∧ t.posted = s.posted ++ [.noticeDelivery .entryChanged e.val (d.number + 16 * c.number)] := by
  have fields := fields_moveEntry_wanted (s.storeFields e after) e d c (by rw [fields_stored]; exact hd)
  rw [fields_stored] at fields
  have consequences : (s.storeFields e after).writeConsequences e (s.load e).fields =
      (s.storeFields e after).moveEntry e d c := by
    rcases hk with hk | hk
    · exact writeConsequences_moved _ _ _ hm (by rw [entryState_moveEntry_same]; exact hk)
    · exact writeConsequences_kept _ _ _ hm (by rw [fields, hk])
  subst hres
  refine ⟨_, exec_writeEntry hrun hb hw ha hc consequences, replied_answer (requestTime_congr ?_ ?_), ?_, ?_, ?_,
    fun x hx => ?_, ?_, ?_⟩
  · rw [State.moveEntry_timebase]; rfl
  · rw [State.moveEntry_ports]; rfl
  · rw [entryState_answer, entryState_moveEntry_same]
  · rw [load_answer, fields]
  · rw [State.answer_ltc, relay_moveEntry_same]
  · rw [load_answer, load_stored_moved _ _ hx]
  · rw [State.answer_adu]
  · rw [State.answer_posted, State.moveEntry_posted]; rfl

/-- A write without consequences stores the masked fields alone. -/
theorem writeConsequences_none (s : State) (e : Entry) (after : Fields)
    (h1 : after.wanted = (s.load e).fields.wanted)
    (h2 : after.essential = (s.load e).fields.essential ∨ s.entryState e ≠ .waiting)
    (h3 : after.member = (s.load e).fields.member ∨ after.member = false ∧ s.entryState e ≠ .rotaOff
      ∨ after.member = true ∧ (s.rotaExcludes e = false ∨ s.entryState e = .off ∨ s.entryState e = .rotaOff)) :
    (s.storeFields e after).writeConsequences e (s.load e).fields = s.storeFields e after := by
  have none : (s.storeFields e after).writeMove e (s.load e).fields = s.storeFields e after :=
    writeMove_none _ e _ (by rw [fields_stored]; exact h1)
      (by rw [fields_stored, entryState_stored]; exact h3)
  rcases h2 with h | h
  · exact writeConsequences_kept _ _ _ none (by rw [fields_stored, h])
  · exact writeConsequences_moved _ _ _ none (by rw [entryState_stored]; exact h)

theorem entryOf_none {b : Byte} (h : 16 ≤ b.toNat) : entryOf b = none := dif_neg (by omega)

/-- A requeue by a changed essential field (R62). -/
theorem writeConsequences_requeues (s : State) (e : Entry) (after : Fields)
    (h1 : after.wanted = (s.load e).fields.wanted) (h2 : after.member = (s.load e).fields.member)
    (h3 : after.essential = !(s.load e).fields.essential) (h4 : s.entryState e = .waiting) :
    (s.storeFields e after).writeConsequences e (s.load e).fields = (s.storeFields e after).requeue e := by
  have none : (s.storeFields e after).writeMove e (s.load e).fields = s.storeFields e after :=
    writeMove_none _ e _ (by rw [fields_stored]; exact h1) (.inl (by rw [fields_stored]; exact h2))
  refine writeConsequences_requeue _ e _ none ?_ ((entryState_stored s e after e).trans h4)
  rw [fields_stored, h3]
  exact Bool.not_ne_self _

/-! ### FILL ENTRIES (R88) -/

/-- The number of entries a fill selects. -/
theorem length_fillEntriesOf (b sel : Byte) (hb : b = 0 ∨ b = 4 ∨ b = 8 ∨ b = 12) :
    (fillEntriesOf b.toNat sel).length =
      (sel.getLsbD 0).toNat + (sel.getLsbD 1).toNat + (sel.getLsbD 2).toNat + (sel.getLsbD 3).toNat := by
  unfold fillEntriesOf Entry.all
  rw [← List.countP_eq_length_filter]
  rcases hb with rfl | rfl | rfl | rfl <;>
    simp [List.countP_cons, Bool.toNat, Bool.cond_eq_ite, add_comm, add_left_comm]

theorem mem_fillEntriesOf (b : Nat) (sel : Byte) (e : Entry) :
    e ∈ fillEntriesOf b sel ↔ b ≤ e.val ∧ e.val < b + 4 ∧ sel.getLsbD (e.val - b) = true := by
  unfold fillEntriesOf
  rw [List.mem_filter, Bool.and_eq_true, Bool.and_eq_true, decide_eq_true_eq, decide_eq_true_eq, and_assoc]
  exact and_iff_right (mem_all e)

theorem nodup_fillEntriesOf (b : Nat) (sel : Byte) : (fillEntriesOf b sel).Nodup := nodup_all.filter _

/-- A selected entry is one of the group's four. -/
theorem fillEntriesOf_index {b : Nat} {sel : Byte} {e : Entry} (h : e ∈ fillEntriesOf b sel) :
    ∃ k : Fin 4, sel.getLsbD k.val = true ∧ e.val = b + k.val := by
  obtain ⟨low, high, bit⟩ := (mem_fillEntriesOf b sel e).mp h
  exact ⟨⟨e.val - b, by omega⟩, bit, by show e.val = b + (e.val - b); omega⟩

/-- Entries that a fill leaves, each with the same result. -/
theorem foldl_fillOne_same (s : State) (p : Port) (r : Result) (l : List Entry) (bs : List Byte)
    (h : ∀ e ∈ l, s.writeAs p e (s.ltc.masks.get p) (s.ltc.fills.get p) = (s, r)) :
    l.foldl (fillOne p) (s, bs) = (s, bs ++ List.replicate l.length r.byte) := by
  induction l generalizing bs with
  | nil => exact (congrArg (s, ·) (List.append_nil bs)).symm
  | cons e es ih =>
    have one : fillOne p (s, bs) e = (s, bs ++ [r.byte]) := by
      unfold fillOne
      dsimp only
      rw [h e (List.mem_cons_self ..)]
    rw [List.foldl_cons, one, ih _ fun x hx => h x (List.mem_cons_of_mem _ hx), List.append_assoc]
    rfl

/-- A fill gives one result byte for each entry. -/
theorem length_foldl_fillOne (p : Port) (l : List Entry) (acc : State × List Byte) :
    (l.foldl (fillOne p) acc).2.length = acc.2.length + l.length := by
  induction l generalizing acc with
  | nil => rfl
  | cons e es ih =>
    rw [List.foldl_cons, ih]
    show (acc.2 ++ [_]).length + es.length = _
    rw [List.length_append, List.length_cons]
    show acc.2.length + 1 + es.length = acc.2.length + (es.length + 1)
    omega

/-- A mask without wanted, essential and member leaves these three. -/
theorem mergeFields_kept (m : FieldMask) (old new : Fields) (h0 : m.getLsbD 0 = false) (h2 : m.getLsbD 2 = false)
    (h4 : m.getLsbD 4 = false) :
    (mergeFields m old new).wanted = old.wanted ∧ (mergeFields m old new).essential = old.essential
      ∧ (mergeFields m old new).member = old.member := by
  unfold mergeFields
  rw [h0, h2, h4]
  exact ⟨rfl, rfl, rfl⟩

/-- Such a write, permitted and without conflict, stores the masked fields alone. -/
theorem writeAs_stores (s : State) (p : Port) (e : Entry) (m : FieldMask) (f : Fields) (h0 : m.getLsbD 0 = false)
    (h2 : m.getLsbD 2 = false) (h4 : m.getLsbD 4 = false) (hf : f.watts ≤ 30000) (hw : s.mayWrite p e = true)
    (hc : s.writeConflicts e m (mergeFields m (s.load e).fields f) = false) :
    s.writeAs p e m f = (s.storeFields e (mergeFields m (s.load e).fields f), .done) := by
  obtain ⟨wanted, essential, member⟩ := mergeFields_kept m (s.load e).fields f h0 h2 h4
  have small : decide (maxWatts < f.watts) = false := decide_eq_false (Nat.not_lt.mpr hf)
  unfold State.writeAs State.writeFields
  rw [if_pos hw]
  dsimp only
  rw [hc, if_neg Bool.noConfusion, writeConsequences_none s e _ wanted (.inl essential) (.inl member), small,
    Bool.and_false]
  rfl

/-- A fill through such a mask stores the fill's fields in each of its entries, and does nothing else. -/
theorem foldl_fillOne_stores (s : State) (p : Port) (m : FieldMask) (f : Fields) (l : List Entry) (bs : List Byte)
    (hm : s.ltc.masks.get p = m) (hfill : s.ltc.fills.get p = f) (h0 : m.getLsbD 0 = false)
    (h2 : m.getLsbD 2 = false) (h4 : m.getLsbD 4 = false) (hf : f.watts ≤ 30000) (hn : l.Nodup)
    (h : ∀ e ∈ l, s.mayWrite p e = true ∧ s.writeConflicts e m (mergeFields m (s.load e).fields f) = false) :
    ∃ t, l.foldl (fillOne p) (s, bs) = (t, bs ++ List.replicate l.length Result.done.byte)
      ∧ t = { s with ltc := { s.ltc with loads := t.ltc.loads } }
      ∧ ∀ e, t.load e =
          if e ∈ l then { s.load e with fields := mergeFields m (s.load e).fields f } else s.load e := by
  induction l generalizing s bs with
  | nil => exact ⟨s, congrArg (s, ·) (List.append_nil bs).symm, rfl, fun e => (if_neg List.not_mem_nil).symm⟩
  | cons x xs ih =>
    obtain ⟨hx, hxs⟩ := List.nodup_cons.mp hn
    obtain ⟨may, conflict⟩ := h x (List.mem_cons_self ..)
    have one : fillOne p (s, bs) x =
        (s.storeFields x (mergeFields m (s.load x).fields f), bs ++ [Result.done.byte]) := by
      unfold fillOne
      dsimp only
      rw [hm, hfill, writeAs_stores s p x m f h0 h2 h4 hf may conflict]
    have rest : ∀ e ∈ xs, (s.storeFields x (mergeFields m (s.load x).fields f)).load e = s.load e :=
      fun e he => load_storeFields_other s _ fun hex => hx (hex ▸ he)
    obtain ⟨t, walk, frame, loads⟩ := ih (s.storeFields x (mergeFields m (s.load x).fields f))
      (bs ++ [Result.done.byte]) hm hfill hxs fun e he => by
        obtain ⟨may, conflict⟩ := h e (List.mem_cons_of_mem _ he)
        refine ⟨may, ?_⟩
        rw [rest e he, ← conflict]
        unfold State.writeConflicts
        rw [entryState_stored]
        rfl
    refine ⟨t, ?_, frame, fun e => ?_⟩
    · rw [List.foldl_cons, one, walk, List.append_assoc]
      rfl
    · rw [loads e]
      by_cases hex : e = x
      · subst hex
        rw [if_neg hx, if_pos (List.mem_cons_self ..), load_storeFields_same]
      · rw [load_storeFields_other s _ hex]
        by_cases he : e ∈ xs
        · rw [if_pos he, if_pos (List.mem_cons_of_mem _ he)]
        · rw [if_neg he, if_neg (fun hm => (List.mem_cons.mp hm).elim hex he)]

theorem fillBase_group {b : Byte} (hb : b = 0 ∨ b = 4 ∨ b = 8 ∨ b = 12) : fillBase b = some b.toNat := if_pos hb

/-- FILL ENTRIES of a group is the walk over its selected entries. -/
theorem exec_fillEntries {s t : State} {p : Port} {b sel : Byte} {data : List Byte} (hrun : s.phase = .running)
    (hb : b = 0 ∨ b = 4 ∨ b = 8 ∨ b = 12)
    (h : (fillEntriesOf b.toNat sel).foldl (fillOne p) (s, []) = (t, data)) :
    exec (.fillEntries p b sel) s = .next (t.answer p RequestName.fillEntries.code .done data) := by
  refine next_taken ⟨hrun, rfl⟩ ?_ Result.noConfusion Result.noConfusion
  dsimp only
  rw [fillBase_group hb]
  dsimp only
  rw [h]

/-- Settles O39. -/
theorem entriesAreWritten : Obligations.EntriesAreWritten := by
  refine ⟨fun s p b flags m watts e after hrun hb hw _ ha hc hs hold hnew hess hex => ?_,
    fun s p b flags m watts e old after res hrun hb hw hold ha hc hres => ⟨fun h1 h2 hs => ?_,
      fun h1 h2 h3 h4 h5 hs => ?_, fun h1 h2 h3 h4 hx hs hr => ?_, fun h1 h2 h3 hs => ?_, fun h1 h2 h3 hx hs => ?_,
      fun h1 h2 h3 => ?_⟩,
    fun s p b flags watts m hrun hb => next_malformed ⟨hrun, rfl⟩ ?_,
    fun s p b flags watts m e hrun hb hw => next_refused ⟨hrun, rfl⟩ ?_,
    fun s p b flags m watts e hrun hb hw hc => next_taken ⟨hrun, rfl⟩ ?_ Result.noConfusion Result.noConfusion, ?_⟩
  · have move := writeMove_want (s.storeFields e after) e (s.load e).fields hold
      (by rw [fields_stored, hnew]) ((entryState_stored s e after e).trans hs)
    have wants : (s.storeFields e after).wantEntry e .wantedSet =
        (s.storeFields e after).moveEntry e .waiting .wantedSet := by
      refine if_neg ?_
      rw [fields_stored]
      exact fun h => Bool.noConfusion (hex.symm.trans h)
    obtain ⟨t, step, reply, state, fields, relay, others, adu, posted⟩ :=
      writeEntry_moves .waiting .wantedSet hrun hb hw ha hc rfl (move.trans wants) hnew (.inr hess)
    refine ⟨t, [], step, reply, state, fields, relay, others, fun h => ?_, posted⟩
    rw [adu, adu_moveEntry_queued _ e .wantedSet (.inl ((entryState_stored s e after e).trans hs)), fields_stored, h]
    rfl
  · subst hold
    have move := writeMove_clear (s.storeFields e after) e (s.load e).fields h1 (by rw [fields_stored, h2])
      (by rw [entryState_stored]; exact hs)
    obtain ⟨t, step, reply, state, fields, relay, others, adu, posted⟩ :=
      writeEntry_moves .off .wantedCleared hrun hb hw ha hc hres move h2 (.inl EntryState.noConfusion)
    refine ⟨t, step, reply, state, fields, relay, others, fun hr x hx => ?_, ?_, posted⟩
    · cases hk : s.entryState e with
      | reserved k =>
        rw [adu, adu_moveEntry_reserved _ e .off .wantedCleared ((entryState_stored s e after e).trans hk)
          EntryState.noConfusion] at hx
        exact of_decide_eq_true (List.mem_filter.mp hx).2
      | _ => rw [hk] at hr; exact Bool.noConfusion hr
    · rw [adu, queue_moveEntry _ e .off .wantedCleared EntryState.noConfusion, entryState_stored]
      rfl
  · subst hold
    have move := writeMove_leave (s.storeFields e after) e (s.load e).fields h1 (by rw [fields_stored, h2]) h3
      (by rw [fields_stored, h4]) ((entryState_stored s e after e).trans hs)
    obtain ⟨t, step, reply, state, fields, relay, others, adu, posted⟩ :=
      writeEntry_moves .waiting .memberCleared hrun hb hw ha hc hres move h2 (.inr h5)
    refine ⟨t, step, reply, state, fields, others, fun h => ?_, posted⟩
    rw [adu, adu_moveEntry_queued _ e .memberCleared (.inr ((entryState_stored s e after e).trans hs)),
      fields_stored, h]
    rfl
  · subst hold
    have move := writeMove_exclude (s.storeFields e after) e (s.load e).fields h1 (by rw [fields_stored, h2]) h3
      (by rw [fields_stored, h4]) hx (by rw [entryState_stored]; exact hs) (by rw [entryState_stored]; exact hr)
    obtain ⟨t, step, reply, state, fields, relay, others, adu, posted⟩ :=
      writeEntry_moves .rotaOff .rotaExclude hrun hb hw ha hc hres move h2 (.inl EntryState.noConfusion)
    exact ⟨t, step, reply, state, fields, relay, others, posted⟩
  · subst hold hres
    have others (x : Entry) (hx : x ≠ e) : ((s.storeFields e after).load x).fields = (s.load x).fields :=
      congrArg Load.fields (load_storeFields_other s after hx)
    refine ⟨_, exec_writeEntry hrun hb hw ha hc (writeConsequences_requeues s e after h1 h2 h3 hs),
      replied_answer (requestTime_congr rfl rfl), load_storeFields_same s e after,
      fun x hx => load_storeFields_other s after hx, rfl, fun h => ?_, fun first rest hq hf hr hfirst hrest h => ?_, rfl⟩
    · show (s.storeFields e after).queueWith (s.adu.queue.erase e) e ((s.storeFields e after).load e).fields.essential = _
      rw [fields_stored, h]
      rfl
    · show (s.storeFields e after).queueWith (s.adu.queue.erase e) e ((s.storeFields e after).load e).fields.essential = _
      rw [fields_stored, h, hq]
      refine insertAfterLast_between _ e first rest (fun x hx => ?_) fun x hx => ?_
      · rw [others x (fun he => hf (he ▸ hx))]; exact hfirst x hx
      · rw [others x (fun he => hr (he ▸ hx))]; exact hrest x hx
  · subst hold
    have move := writeMove_want (s.storeFields e after) e (s.load e).fields h1
      (by rw [fields_stored, h2]) ((entryState_stored s e after e).trans hs)
    have wants : (s.storeFields e after).wantEntry e .wantedSet =
        (s.storeFields e after).moveEntry e .rotaOff .wantedSet := by
      refine if_pos ?_
      rw [fields_stored, h3]
      exact hx
    obtain ⟨t, step, reply, state, fields, relay, others, adu, posted⟩ :=
      writeEntry_moves .rotaOff .wantedSet hrun hb hw ha hc hres (move.trans wants) h2 (.inl EntryState.noConfusion)
    refine ⟨t, step, reply, state, fields, relay, ?_, others, posted⟩
    rw [adu, adu_moveEntry_idle _ e .rotaOff .wantedSet (by rw [entryState_stored, hs]; decide) EntryState.noConfusion]
    rfl
  · subst hold hres
    exact exec_writeEntry hrun hb hw ha hc (writeConsequences_none s e after h1 h2 h3)
  · dsimp only
    rw [entryOf_none hb]
  · dsimp only
    rw [hb]
    dsimp only
    unfold State.writeAs
    rw [if_neg (by rw [hw]; exact Bool.noConfusion)]
    rfl
  · dsimp only
    rw [hb]
    dsimp only [Option.map, Option.getD]
    unfold State.writeAs State.writeFields
    rw [if_pos hw]
    dsimp only
    rw [if_pos hc]
  · refine ⟨fun s p b sel hrun hb hw => ?_, fun s p b sel hrun hb => ?_,
      fun s p b sel k e x hrun hb hsel he hw hx => ?_, fun s p b sel m f hrun hb hm hf h0 h2 h4 hwatts h => ?_,
      fun s p b sel hrun hb h => ?_, fun s p b sel hrun n0 n4 n8 n12 => next_malformed ⟨hrun, rfl⟩ ?_⟩
    · rw [← length_fillEntriesOf b sel hb]
      exact exec_fillEntries hrun hb (foldl_fillOne_same s p .denied _ [] fun e _ =>
        if_neg (by rw [hw e]; exact Bool.noConfusion))
    · refine ⟨_, _, exec_fillEntries hrun hb rfl, replied_answer ?_, ?_⟩
      · exact requestTime_of_frame (frame_fill p _ (s, [])) (by simp) (by simp) p
      · rw [length_foldl_fillOne, ← length_fillEntriesOf b sel hb]
        exact Nat.zero_add _
    · have one : (fillEntriesOf b.toNat sel).length = 1 := by
        rw [length_fillEntriesOf b sel hb, show sel.getLsbD 0 = _ from hsel 0, show sel.getLsbD 1 = _ from hsel 1,
          show sel.getLsbD 2 = _ from hsel 2, show sel.getLsbD 3 = _ from hsel 3]
        fin_cases k <;> rfl
      have mem : e ∈ fillEntriesOf b.toNat sel := by
        refine (mem_fillEntriesOf _ _ _).mpr ⟨by omega, by omega, ?_⟩
        rw [he, Nat.add_sub_cancel_left, hsel k]
        exact decide_eq_true rfl
      obtain ⟨a, list⟩ := List.length_eq_one_iff.mp one
      rw [list, List.mem_singleton] at mem
      subst hx mem
      refine exec_fillEntries hrun hb ?_
      rw [list]
      exact congrArg (fun x : State × Result => (x.1, [x.2.byte])) (if_pos hw)
    · subst hm hf
      obtain ⟨t, walk, frame, loads⟩ := foldl_fillOne_stores s p _ _ (fillEntriesOf b.toNat sel) [] rfl rfl h0 h2 h4
        hwatts (nodup_fillEntriesOf _ _) fun e he => by
          obtain ⟨k, bit, index⟩ := fillEntriesOf_index he
          exact h k e bit index
      rw [← length_fillEntriesOf b sel hb]
      refine ⟨_, exec_fillEntries hrun hb walk, replied_answer ?_, fun e => ?_, ?_, ?_, ?_, ?_, ?_⟩
      · rw [frame]; rfl
      · rw [load_answer, loads e]
        exact if_congr (mem_fillEntriesOf _ _ _) rfl rfl
      · rw [State.answer_ltc]; exact (congrArg (fun u : State => u.ltc.relays) frame :)
      · rw [State.answer_ltc]; exact (congrArg (fun u : State => u.ltc.chain) frame :)
      · rw [State.answer_adu]; exact (congrArg State.adu frame :)
      · rw [State.answer_shc]; exact (congrArg State.shc frame :)
      · rw [State.answer_posted]; exact (congrArg State.posted frame :)
    · rw [← length_fillEntriesOf b sel hb]
      refine exec_fillEntries hrun hb (foldl_fillOne_same s p .conflict _ [] fun e he => ?_)
      obtain ⟨k, bit, index⟩ := fillEntriesOf_index he
      obtain ⟨may, conflict⟩ := h k e bit index
      unfold State.writeAs State.writeFields
      rw [if_pos may]
      exact if_pos conflict
    · dsimp only
      have none : fillBase b = none := if_neg (by rintro (h | h | h | h); exacts [n0 h, n4 h, n8 h, n12 h])
      rw [none]

end Sys2Proof.Machine
end

section
/-! PROOFS. Masks, fills and the shed chain (R87, R91, R92), and the reading requests (R89 and others). -/

namespace Sys2Proof.Machine

/-! ### The shed chain -/

/-- An entry placed after an anchor goes directly behind it (R91). -/
theorem insertAfter_split (a e : Entry) (before after : List Entry) (h : a ∉ before) :
    insertAfter a e (before ++ a :: after) = before ++ a :: e :: after := by
  induction before with
  | nil => exact if_pos rfl
  | cons x xs ih =>
    obtain ⟨hx, hxs⟩ := not_or.mp (List.mem_cons.not.mp h)
    exact (if_neg (fun he => hx he.symm)).trans (congrArg (x :: ·) (ih hxs))

theorem anchorOf_head : anchorOf 0xFF = some none := rfl

/-- An anchor's index is no AT HEAD byte. -/
theorem anchorOf_entry {c : Byte} {a : Entry} (h : entryOf c = some a) : anchorOf c = some (some a) := by
  have low : c.toNat < 16 := by
    by_contra hn
    rw [entryOf_none (Nat.not_lt.mp hn)] at h
    exact Option.noConfusion rfl (heq_of_eq h)
  unfold anchorOf
  rw [if_neg (fun hc => by subst hc; exact absurd low (by decide)), h]
  rfl

/-- A placement or a removal is for ports other than S. -/
theorem serves_chain {s : State} {p : Port} (hrun : s.phase = .running) (hp : p ≠ .s) :
    s.serves .chainPlace p ∧ s.serves .chainRemove p := by
  cases p with
  | s => exact absurd rfl hp
  | g => exact ⟨⟨hrun, rfl⟩, ⟨hrun, rfl⟩⟩
  | h => exact ⟨⟨hrun, rfl⟩, ⟨hrun, rfl⟩⟩

/-- Settles O40. -/
theorem masksAndChainAreSet : Obligations.MasksAndChainAreSet := by
  refine ⟨fun s p m hrun => next_taken ⟨hrun, rfl⟩ rfl Result.noConfusion Result.noConfusion,
    fun s p flags watts hrun => ?_, fun s p b e hrun hp he hess hroom => ?_,
    fun s p b c e a before after hrun hp he hc hess hne hout hroom hchain hbefore => ?_,
    fun s p b c e hrun hp he hc hess => ?_, fun s p b e hrun hp he hin => ?_, fun s p b e hrun hp he hout => ?_⟩
  · refine ⟨_, next_taken ⟨hrun, rfl⟩ rfl ?_ ?_, rfl, fun q hq => ?_, ?_⟩
    · split <;> exact Result.noConfusion
    · split <;> exact Result.noConfusion
    · exact PerPort.get_set_other _ _ hq
    · exact PerPort.get_set_same _ _ _
  · refine next_taken (serves_chain hrun hp).1 ?_ Result.noConfusion Result.noConfusion
    have fits : s.placeConflicts e none = false := by
      unfold State.placeConflicts
      rw [hess]
      rcases hroom with h | h
      · simp [h]
      · simp; omega
    dsimp only
    rw [he, anchorOf_head]
    dsimp only
    rw [fits]
    rfl
  · refine next_taken (serves_chain hrun hp).1 ?_ Result.noConfusion Result.noConfusion
    have anchored : a ∈ s.ltc.chain := by rw [hchain]; simp
    have fits : s.placeConflicts e (some a) = false := by
      unfold State.placeConflicts
      rw [hess]
      simp [anchored, hne]
      omega
    have placing : placed s.ltc.chain e (some a) = before ++ a :: e :: after := by
      show insertAfter a e (s.ltc.chain.erase e) = _
      rw [List.erase_of_not_mem hout, hchain, insertAfter_split a e before after hbefore]
    dsimp only
    rw [he, anchorOf_entry hc]
    dsimp only
    rw [fits, placing]
    rfl
  · refine next_taken (serves_chain hrun hp).1 ?_ Result.noConfusion Result.noConfusion
    have anchor : ∃ a, anchorOf c = some a := by
      rcases hc with rfl | h
      · exact ⟨_, rfl⟩
      · exact ⟨_, anchorOf_entry (dif_pos h)⟩
    obtain ⟨a, ha⟩ := anchor
    have conflict : s.placeConflicts e a = true := by
      unfold State.placeConflicts
      rw [hess]
      rfl
    dsimp only
    rw [he, ha]
    exact if_pos conflict
  · refine next_taken (serves_chain hrun hp).2 ?_ Result.noConfusion Result.noConfusion
    dsimp only
    rw [he]
    exact if_pos hin
  · refine next_taken (serves_chain hrun hp).2 ?_ Result.noConfusion Result.noConfusion
    dsimp only
    rw [he]
    exact if_neg hout

/-! ### Numbers as the tables of section 10.2 write them -/

theorem refState_number (r : RefState) :
    r.number = match r with | .starting => 0 | .crystal => 1 | .fallback => 2 := by cases r <;> rfl

theorem resetCause_number (c : ResetCause) :
    c.ctorIdx = match c with | .powerOn => 0 | .brownOut => 1 | .pin => 2 := by cases c <;> rfl

theorem lineState_number (l : LineState) :
    l.number = match l with | .absent => 0 | .establishing => 1 | .present => 2 := by cases l <;> rfl

theorem regState_number (r : RegState) :
    r.number = match r with | .stopped => 0 | .holding => 1 | .regulating => 2 := by cases r <;> rfl

theorem firingState_number (f : FiringState) : f.ctorIdx = match f with | .off => 0 | .firing => 1 := by
  cases f <;> rfl

theorem bankMark_number (m : BankMark) :
    m.ctorIdx = match m with | .fired => 0 | .heldOff => 1 | .notFired => 2 := by cases m <;> rfl

theorem origin_number (o : Origin) : o.ctorIdx = match o with | .restore => 0 | .sawStart => 1 := by
  cases o <;> rfl

theorem shedState_number (c : ShedState) :
    c.number = match c with | .normal => 0 | .confirming => 1 | .shedding => 2 | .recoveryHold => 3 := by
  cases c <;> rfl

theorem sawStage_number (g : SawStage) :
    g.number = match g with
      | .off => 0 | .waiting => 1 | .star => 2 | .changeover => 3 | .delta => 4 | .stopping => 5 | .fault => 6 := by
  cases g <;> rfl

theorem contactor_number (k : Contactor) : k.ctorIdx = match k with | .main => 0 | .star => 1 | .delta => 2 := by
  cases k <;> rfl

theorem sawFaultKind_number (k : SawFaultKind) :
    k.ctorIdx = match k with | .noConfirm => 0 | .uncommanded => 1 | .notOpen => 2 := by cases k <;> rfl

theorem tripCause_number (c : TripCause) :
    c.number = match c with
      | .lineOverspeed => 1 | .saturatedOverspeed => 2 | .shaftOverspeed => 3 | .requested => 4 := by
  cases c <;> rfl

theorem writeMark_number (m : WriteMark) :
    m.ctorIdx = match m with | .clear => 0 | .pending => 1 | .inProgress => 2 := by cases m <;> rfl

theorem direction_number (d : Direction) :
    d.number = match d with | .hold => 0 | .closeGate => 1 | .openGate => 2 | .tripped => 3 := by cases d <;> rfl

theorem entryState_number (x : EntryState) :
    x.number = match x with
      | .off => 0 | .waiting => 1 | .reserved _ => 2 | .on => 3 | .shedUnderfrequency => 4
      | .shedLineLoss => 4 | .displaced => 5 | .rotaOff => 6 := by cases x <;> rfl

theorem unstated_length (s : State) (place n : Nat) : (s.unstated place n).length = n := by
  unfold State.unstated
  rw [List.length_map, List.length_range]

/-! ### READ ENTRY (R89) -/

/-- Settles O41. -/
theorem entryIsReported : Obligations.EntryIsReported := by
  refine ⟨fun s p b e hrun he => next_taken ⟨hrun, rfl⟩ ?_ Result.noConfusion Result.noConfusion,
    fun s p b hrun hb => next_malformed ⟨hrun, rfl⟩ ?_⟩
  · dsimp only
    rw [he]
    rfl
  · dsimp only
    rw [entryOf_none hb]

/-! ### The sections of READ STATUS with fields that may be absent -/

/-- The next allocation of section 3, unstated when there is none (log 15). -/
def State.nextBytes (s : State) : List Byte :=
  match s.bfu.next with
  | some q => n2 q.b0 ++ n2 q.b1 ++ n2 q.b2
  | none => s.unstated 0 6

/-- The current set of section 3, unstated when there is none. -/
def State.currentBytes (s : State) : List Byte :=
  match s.bfu.current with
  | some c => n2 c.h ++ bankBytes c.h c.banks.b0 ++ bankBytes c.h c.banks.b1 ++ bankBytes c.h c.banks.b2
  | none => s.unstated 6 17

/-- The saw request of section 4, unstated when there is none. -/
def State.requestBytes (s : State) : List Byte :=
  match s.adu.saw with
  | some q => n2 q.surge ++ flagByte q.displace ++ flagByte q.displaced
  | none => s.unstated 0 4

/-- The saw fault record of section 8 behind its presence byte. -/
def State.sawRecordFields (s : State) : List Byte :=
  match s.sws.record with
  | some r => n1 r.contactor.ctorIdx ++ n1 r.kind.ctorIdx ++ n1 r.stage.number ++ Wide.bytes r.time
  | none => s.unstated 0 7

theorem sawRecordBytes_eq (s : State) : s.sawRecordBytes = n1 s.sws.record.isSome.toNat ++ s.sawRecordFields := by
  unfold State.sawRecordBytes State.sawRecordFields
  cases s.sws.record <;> rfl

/-- The trip record of READ TURBINE behind its presence byte. -/
def State.tripRecordFields (s : State) : List Byte :=
  match s.tsv.record with
  | some r => n1 r.cause.number ++ Wide.bytes r.time ++ n4 r.f
  | none => s.unstated 0 9

theorem tripRecordBytes_eq (s : State) : s.tripRecordBytes = n1 s.tsv.record.isSome.toNat ++ s.tripRecordFields := by
  unfold State.tripRecordBytes State.tripRecordFields
  cases s.tsv.record <;> rfl

section
variable {s : State} {p : Port} {b : Byte} {data : List Byte}

/-- READ STATUS of a section of the table answers it. -/
theorem exec_readStatus (hrun : s.phase = .running) (h : s.section b.toNat = some data) :
    exec (.readStatus p b) s = .next (s.draw.answer p RequestName.readStatus.code .done data) := by
  refine next_taken ⟨hrun, rfl⟩ ?_ Result.noConfusion Result.noConfusion
  rw [h]

end

/-- Beyond the table there is no section. -/
theorem section_none (s : State) {n : Nat} (h : 9 < n) : s.section n = none := by
  unfold State.section
  split <;> first | omega | rfl

theorem section_some (s : State) {n : Nat} (h : n ≤ 9) : ∃ data, s.section n = some data := by
  interval_cases n <;> exact ⟨_, rfl⟩

/-- The slots a selection of READ ROTA asks for (R122). -/
theorem rotaSlots_selected (s : State) (source first count : Byte) (page : Vector AllowedSet 64)
    (sets : List AllowedSet) (hf : first.toNat < 64) (hc : count.toNat ≤ 8) (hfc : first.toNat + count.toNat ≤ 64)
    (hp : source = 4 ∧ page = s.rtp.buffer ∨ ∃ k, pageOf source = some k ∧ page = s.rtp.pages.get k)
    (hl : sets.length = count.toNat)
    (hs : ∀ (k : Nat) (x : Fin 64), k < count.toNat → x.val = first.toNat + k → sets[k]? = some (page.get x)) :
    s.rotaSlots source.toNat first.toNat count.toNat = some sets := by
  have selected : source.toNat ≤ 4 ∧
      (if h : source.toNat < 4 then s.rtp.pages.get ⟨source.toNat, h⟩ else s.rtp.buffer) = page := by
    rcases hp with ⟨rfl, rfl⟩ | ⟨k, hk, rfl⟩
    · exact ⟨by decide, rfl⟩
    · unfold pageOf at hk
      split at hk
      · next h =>
        obtain rfl := Option.some.inj hk
        exact ⟨h.le, dif_pos h⟩
      · exact Option.noConfusion rfl (heq_of_eq hk)
  obtain ⟨low, src⟩ := selected
  unfold State.rotaSlots
  rw [if_pos ⟨low, hf, hc, hfc⟩, src]
  refine congrArg some (List.ext_getElem? fun k => ?_)
  by_cases hk : k < count.toNat
  · rw [hs k (slotIx (first.toNat + k)) hk (slotIx_of_lt (by omega)), List.getElem?_map,
      List.getElem?_range hk]
    rfl
  · rw [List.getElem?_eq_none (by rw [List.length_map, List.length_range]; omega),
      List.getElem?_eq_none (by omega)]

/-- Settles O42. -/
theorem readsReportOnly : Obligations.ReadsReportOnly := by
  refine ⟨fun s p hrun => next_taken ⟨hrun, rfl⟩ rfl Result.noConfusion Result.noConfusion,
    fun s p hrun => next_taken ⟨hrun, rfl⟩ rfl Result.noConfusion Result.noConfusion,
    fun s p q b hrun hq => next_taken ⟨hrun, rfl⟩ ?_ Result.noConfusion Result.noConfusion,
    fun s p g i x active shadow hrun h => next_taken ⟨hrun, rfl⟩ ?_ Result.noConfusion Result.noConfusion,
    fun s p b data hrun h => exec_readStatus hrun h,
    fun s p b hrun hb => next_malformed ⟨hrun, rfl⟩ ?_,
    fun s b hb => section_some s hb,
    fun s p b data hrun h => exec_readStatus hrun ?_, fun s p hrun => ?_, fun s p hrun => ?_, fun s p hrun => ?_,
    fun s p hrun => ?_, fun s p sel sets hrun h => ?_, fun s p source first count hrun h => next_malformed ⟨hrun, rfl⟩ ?_⟩
  · rw [hq]
  · rw [h]
  · rw [section_none s hb]
  · rcases h with ⟨rfl, rfl⟩ | ⟨rfl, rfl⟩ | ⟨rfl, rfl⟩ | ⟨rfl, rfl⟩ | ⟨rfl, rfl⟩ | ⟨rfl, rfl⟩ | ⟨rfl, rfl⟩ <;>
      refine congrArg some ?_
    · unfold State.generalSection
      rw [refState_number, resetCause_number]
      rfl
    · unfold State.lineSection
      dsimp only
      rw [lineState_number]
      rfl
    · unfold State.regulationSection
      dsimp only
      rw [regState_number]
      rfl
    · unfold State.reservationSection State.reservationBytes
      simp only [origin_number]
      rfl
    · rfl
    · unfold State.shedSection
      dsimp only
      rw [shedState_number]
      rfl
    · unfold State.entriesSection
      simp only [entryState_number]
      rfl
  · refine ⟨s.nextBytes, s.currentBytes, ?_, ?_, fun q hq => ?_, fun c hc => ?_, exec_readStatus hrun ?_⟩
    · unfold State.nextBytes
      split
      · rfl
      · exact unstated_length s 0 6
    · unfold State.currentBytes
      split
      · rfl
      · exact unstated_length s 6 17
    · unfold State.nextBytes
      rw [hq]
    · refine ⟨fun x => x.delay.getD (Config.notFiredDelay c.h), fun x delay hx => by show x.delay.getD _ = _; rw [hx]; rfl, ?_⟩
      unfold State.currentBytes
      rw [hc]
      simp only [bankBytes, bankMark_number, List.flatMap_cons, List.flatMap_nil, List.append_nil, List.append_assoc] <;> rfl
    · refine congrArg some ?_
      unfold State.firingSection
      dsimp only
      rw [firingState_number]
      rfl
  · refine ⟨s.requestBytes, ?_, fun q hq => ?_, exec_readStatus hrun rfl⟩
    · unfold State.requestBytes
      split
      · rfl
      · exact unstated_length s 0 4
    · unfold State.requestBytes
      rw [hq]
      rfl
  · refine ⟨s.sawRecordFields, ?_, fun r hr => ?_, exec_readStatus hrun (congrArg some ?_)⟩
    · unfold State.sawRecordFields
      split
      · rfl
      · exact unstated_length s 0 7
    · unfold State.sawRecordFields
      rw [hr]
      dsimp only
      rw [contactor_number, sawFaultKind_number] <;> rfl
    · unfold State.sawSection
      dsimp only
      rw [sawRecordBytes_eq, sawStage_number]
      simp only [List.append_assoc]
      rfl
  · refine ⟨s.tripRecordFields, ?_, fun r hr => ?_, next_taken (t := s.draw) ⟨hrun, rfl⟩ ?_ Result.noConfusion Result.noConfusion⟩
    · unfold State.tripRecordFields
      split
      · rfl
      · exact unstated_length s 0 9
    · unfold State.tripRecordFields
      rw [hr]
      dsimp only
      rw [tripCause_number] <;> rfl
    · dsimp only
      rw [tripRecordBytes_eq, writeMark_number, direction_number]
      simp only [List.append_assoc]
      rfl
  · refine ⟨s.splitBytes, ?_, fun h => ?_, fun x hx => ?_, ?_⟩
    · unfold State.splitBytes
      split
      · rfl
      · rw [List.length_append, unstated_length]
        rfl
    · unfold State.splitBytes
      rw [h]
      rfl
    · unfold State.splitBytes
      rw [hx] <;> rfl
    · refine next_taken (t := s.draw) ⟨hrun, rfl⟩ ?_ Result.noConfusion Result.noConfusion
      rcases h with ⟨rfl, rfl⟩ | ⟨source, first, count, page, rfl, hf, hc, hfc, hp, hl, hs⟩
      · rfl
      · dsimp only
        rw [rotaSlots_selected s source first count page sets hf hc hfc hp hl hs]
        rfl
  · have none : s.rotaSlots source.toNat first.toNat count.toNat = none := by
      unfold State.rotaSlots
      rw [if_neg (by omega)]
    dsimp only
    rw [none]

end Sys2Proof.Machine
end

section
/-! PROOFS. The slot timer of the rota (R113 to R115), and the end of the settings load (R169, R177). -/

namespace Sys2Proof.Machine

/-- Settles O47. -/
theorem slotsFollowEachOther : Obligations.SlotsFollowEachOther := by
  refine ⟨fun s start hrun hp hs he hlt => next_running hrun ?_,
    fun s start next hrun hp hs hd h31 h63 hn => next_running hrun ?_,
    fun s start next hrun hp hs hd hx hn => next_running hrun ?_⟩
  · have notDue : s.slotDue = false := by
      unfold State.slotDue State.slotSeconds
      rw [hp, Bool.true_and]
      exact decide_eq_false (Nat.not_le.mpr hlt)
    have due : s.secondDue = true := by
      unfold State.secondDue
      rw [hp, notDue, ranOut_some hs he]
      rfl
    rw [if_pos due, hs]
    rfl
  · have due : s.slotDue = true := by
      unfold State.slotDue State.slotSeconds
      rw [hp, decide_eq_true hd]
      rfl
    have slot : slotIx (s.rtp.pointer.val + 1) = next := hn ▸ slotIx_val next
    rw [if_pos due]
    unfold State.endSlot
    rw [hs, slot]
    exact if_neg (not_or.mpr ⟨h31, h63⟩)
  · have due : s.slotDue = true := by
      unfold State.slotDue State.slotSeconds
      rw [hp, decide_eq_true hd]
      rfl
    have crossing : s.rtp.crossing = (next, s.rtp.split.isSome) := by
      unfold Rota.crossing
      cases hsplit : s.rtp.split with
      | none => rw [hsplit] at hn; exact congrArg (·, false) ((congrArg slotIx hn.symm).trans (slotIx_val next))
      | some x => rw [hsplit] at hn; exact congrArg (·, true) ((congrArg slotIx hn.symm).trans (slotIx_val next))
    rw [if_pos due]
    unfold State.endSlot
    rw [hs, crossing]
    exact (if_pos hx).trans (post_post _ _ _)

/-! ### The end of the load (R169, R177) -/

/-- A later state of a load that has kept the notice clock and the Turbine Supervisor, with every announcement
and every fault status still there. -/
structure Carried (s t : State) : Prop where
  clockMs : t.clockMs = s.clockMs
  tsv : t.tsv = s.tsv
  posted : s.posted <+: t.posted
  status : ∀ k, s.flu.status.getLsbD k = true → t.flu.status.getLsbD k = true

/-- SETTINGS DEFAULTED raised by a load that is due to (R169). -/
def State.raiseDefaulted (s : State) : State :=
  if s.sst.image.defaulted then s.takeRaise ⟨.settingsDefaulted, .other⟩ else s

/-- The raise of a loaded latch (R141). -/
def State.raiseLatched (s : State) : State :=
  if s.tsv.latch then s.takeRaise ⟨.overspeedTrip, s.ownOf .overspeedTrip⟩ else s

theorem loadRaises_eq (s : State) : s.loadRaises = s.raiseDefaulted.raiseLatched := rfl

namespace Carried

variable {s t u : State}

theorem refl : Carried s s := ⟨rfl, rfl, List.prefix_refl _, fun _ h => h⟩

theorem trans (h : Carried s t) (g : Carried t u) : Carried s u :=
  ⟨g.clockMs.trans h.clockMs, g.tsv.trans h.tsv, h.posted.trans g.posted, fun k hk => g.status k (h.status k hk)⟩

theorem takeRaise (s : State) (x : FaultRaise) : Carried s (s.takeRaise x) := by
  cases h : s.flu.status.getLsbD x.kind.number with
  | true => rw [takeRaise_set s x h]; exact refl
  | false =>
    rw [takeRaise_clear s x h]
    refine ⟨rfl, rfl, List.prefix_append _ _, fun k hk => ?_⟩
    show (s.flu.status ||| faultBit x.kind).getLsbD k = true
    rw [BitVec.getLsbD_or, hk, Bool.true_or]

theorem thenRaise {x : FaultRaise} (h : Carried s u) : Carried s (u.takeRaise x) := h.trans (takeRaise u x)

theorem wantEntry (s : State) (e : Entry) (c : MoveCause) : Carried s (s.wantEntry e c) := by
  unfold State.wantEntry
  split <;> exact ⟨rfl, rfl, List.prefix_append _ _, fun _ h => h⟩

theorem settle (s : State) (h : s.brg.state ≠ .regulating) : Carried s s.settleRegulation := by
  have posted := posted_settle_outside s h
  rw [settle_frame] at posted ⊢
  exact ⟨rfl, rfl, posted, fun _ h => h⟩

theorem readAuxiliaries (s : State) : Carried s s.readAuxiliaries := by
  unfold State.readAuxiliaries
  split
  · exact thenRaise ⟨rfl, rfl, List.prefix_refl _, fun _ h => h⟩
  · exact refl

theorem startEntries (s : State) : Carried s s.startEntries :=
  forEntries_keeps (Carried s) _ _ (fun t e ht _ => ht.trans (wantEntry t e .startUp)) s refl

theorem raiseDefaulted (s : State) : Carried s s.raiseDefaulted := by
  unfold State.raiseDefaulted
  split
  · exact takeRaise _ _
  · exact refl

theorem raiseLatched (s : State) : Carried s s.raiseLatched := by
  unfold State.raiseLatched
  split
  · exact takeRaise _ _
  · exact refl

end Carried

/-- A raise sets the status of its kind. -/
theorem takeRaise_sets (s : State) (x : FaultRaise) : (s.takeRaise x).flu.status.getLsbD x.kind.number = true := by
  cases h : s.flu.status.getLsbD x.kind.number with
  | true => rw [takeRaise_set s x h]; exact h
  | false =>
    rw [takeRaise_clear s x h]
    show (s.flu.status ||| faultBit x.kind).getLsbD x.kind.number = true
    rw [BitVec.getLsbD_or, h, Bool.false_or]
    cases x.kind <;> rfl

/-- What the load has taken up when service begins, before the regulator is settled (R20, R38, R141, R169). -/
def State.loaded (s : State) : State := s.takeLoad.loadRaises.giveDemand.startService.startPermit

/-- The state of the device at the end of the load (R177). -/
theorem exec_settingsLoadEnd (s : State) (h : s.phase = .starting) :
    exec .settingsLoadEnd s = .next s.loaded.settleRegulation.startLineLoss.readAuxiliaries.startEntries := by
  have step : exec .settingsLoadEnd s =
      .next (if s.phase = .starting then s.takeLoad.loadRaises.giveDemand.completeStartUp else s) := rfl
  rw [step, if_pos h, completeStartUp_eq]
  unfold State.loaded
  rfl

theorem frame_loaded (s : State) : Frame [.phase, .permit, .faults] s.takeLoad s.loaded :=
  ((frame_loadRaises _).andThen (frame_giveDemand _) rfl rfl (c := [.phase, .permit, .faults])).trans
    (((frame_startService _).mono rfl).trans ((frame_startPermit _).mono rfl))

/-- After the regulator is settled, the rest of the completion leaves it. -/
theorem frame_started (s : State) :
    Frame (.shed :: .saw :: .faults :: moving) s s.startLineLoss.readAuxiliaries.startEntries :=
  ((frame_startLineLoss s).andThen (frame_readAuxiliaries _) rfl rfl (c := .shed :: .saw :: .faults :: moving)).trans
    ((frame_startEntries _).mono rfl)

theorem carried_started (s : State) : Carried s s.startLineLoss.readAuxiliaries.startEntries :=
  have timed : Carried s s.startLineLoss := ⟨rfl, rfl, List.prefix_refl _, fun _ h => h⟩
  (timed.trans (Carried.readAuxiliaries s.startLineLoss)).trans (Carried.startEntries _)

theorem lineLoss_of_same {s t : State} (h : Part.shed.Same s t) : t.shc.lineLoss = s.shc.lineLoss :=
  (congrArg Shed.lineLoss (show ({ t.shc with stack := [] } : Shed) = { s.shc with stack := [] } from h) :)

/-- The line-loss timer is left running (R95). -/
theorem lineLoss_started (s : State) :
    s.startLineLoss.readAuxiliaries.startEntries.shc.lineLoss = some s.timebase := by
  have frame := (frame_readAuxiliaries s.startLineLoss).andThen (frame_startEntries _) rfl rfl
    (c := .saw :: .faults :: moving)
  exact lineLoss_of_same (frame .shed (by simp))

/-- The Turbine Supervisor at the end of the load (R141, R142). -/
theorem tsv_loaded (s : State) :
    s.loaded.tsv.latch = (s.tsv.load s.sst.tripArea).latch ∧ s.loaded.tsv.record = (s.tsv.load s.sst.tripArea).record
      ∧ s.loaded.tsv.runPermit = !(s.tsv.load s.sst.tripArea).latch := by
  have tsv : s.takeLoad.loadRaises.tsv = s.tsv.load s.sst.tripArea :=
    ((Carried.raiseDefaulted s.takeLoad).trans (Carried.raiseLatched _)).tsv
  have loaded : s.loaded.tsv =
      { s.takeLoad.loadRaises.tsv with
        runPermit := !s.takeLoad.loadRaises.tsv.latch
        reference :=
          if s.takeLoad.loadRaises.tsv.latch then .since s.takeLoad.loadRaises.timebase
          else s.takeLoad.loadRaises.tsv.reference } := rfl
  rw [loaded, tsv]
  exact ⟨rfl, rfl, rfl⟩

/-- The load gives the Bank Firing Unit its demand (R38; log 51). -/
theorem demand_loaded (s : State) :
    Instr.demandChange { d := s.takeLoad.brg.d, wd := s.takeLoad.brg.wd, banks := some s.takeLoad.brg.active.banks }
      ∈ s.loaded.posted := by
  have brg : s.takeLoad.loadRaises.brg = s.takeLoad.brg := frame_loadRaises _ .regulator (by simp)
  have posted : s.loaded.posted = s.takeLoad.loadRaises.giveDemand.posted := rfl
  rw [posted, ← brg]
  exact List.mem_append_right _ (List.mem_singleton_self _)

/-- An image that is not valid is loaded with SETTINGS DEFAULTED set (R169). -/
theorem defaulted_loaded (s : State) (h : s.sst.image.contents = none) :
    s.loaded.flu.status.getLsbD 10 = true := by
  have defaulted : s.takeLoad.sst.image.defaulted = true := by
    show s.sst.image.defaulted = true
    unfold Image.defaulted
    rw [h]
    rfl
  have raised : s.takeLoad.raiseDefaulted = s.takeLoad.takeRaise ⟨.settingsDefaulted, .other⟩ := if_pos defaulted
  have set : s.takeLoad.raiseDefaulted.flu.status.getLsbD 10 = true := by
    rw [raised]; exact takeRaise_sets _ _
  exact (Carried.raiseLatched s.takeLoad.raiseDefaulted).status 10 set

/-- Settles O27. -/
theorem settingsLoadTaken : Obligations.SettingsLoadTaken := by
  intro s hs hstate hline
  have frame := frame_started s.loaded.settleRegulation
  have carried := carried_started s.loaded.settleRegulation
  have brgLoaded : s.loaded.brg = s.takeLoad.brg := frame_loaded s .regulator (by simp)
  have outside : s.loaded.brg.state ≠ .regulating := by
    rw [brgLoaded]
    show s.brg.state ≠ _
    rw [hstate]
    exact RegState.noConfusion
  have brg : s.loaded.settleRegulation.brg =
      { s.takeLoad.brg with state := regStateFor s.takeLoad.brg.active.enable s.takeLoad.brg.line } := by
    rw [settle_outside s.loaded outside, brgLoaded]
  have whole := (Carried.settle s.loaded outside).trans (carried_started _)
  have kept : Frame (.phase :: .permit :: .regulator :: .shed :: .saw :: .faults :: moving) s.takeLoad _ :=
    ((frame_loaded s).mono rfl).trans (((frame_settleRegulation s.loaded).mono rfl).trans ((frame_started _).mono rfl))
  have served : Frame (.regulator :: .shed :: .saw :: .faults :: moving) s.loaded _ :=
    ((frame_settleRegulation s.loaded).mono rfl).trans (frame.mono rfl)
  have lineLoss := lineLoss_started s.loaded.settleRegulation
  have regulator := frame .regulator (by simp)
  have regulator := (frame .regulator (by simp)).trans brg
  have permit := whole.tsv
  have clock : s.loaded.settleRegulation.timebase = s.timebase := by
    have settled : s.loaded.settleRegulation.timebase = s.loaded.timebase :=
      frame_settleRegulation s.loaded .clock (by simp)
    exact settled.trans (frame_loaded s .clock (by simp))
  obtain ⟨latch, record, runPermit⟩ := tsv_loaded s
  refine ⟨_, exec_settingsLoadEnd s hs, ?_⟩
  generalize s.loaded.settleRegulation.startLineLoss.readAuxiliaries.startEntries = t at *
  have settings : t.settings = s.sst.image.loaded.settings := kept .settings (by simp)
  have rota : t.rtp = s.takeLoad.rtp := kept .rota (by simp)
  have firing : t.bfu = s.takeLoad.bfu := kept .firing (by simp)
  have running : t.phase = s.loaded.phase := served .phase (by simp)
  have demand := whole.posted.subset (demand_loaded s)
  rw [← permit] at latch record runPermit
  refine ⟨running, whole.clockMs, settings, ?_, ?_, ?_, ?_, ?_, ?_, ?_, ?_, lineLoss.trans (congrArg some clock), ?_,
    ?_, fun l r hc => ?_, fun hc => ⟨?_, whole.status 10 (defaulted_loaded s hc)⟩⟩
  · rw [regulator]; rfl
  · rw [regulator]; rfl
  · rw [regulator]; rfl
  · rw [regulator]; rfl
  · rw [regulator]; rfl
  · rw [regulator]; rfl
  · rw [regulator]
    show regStateFor s.sst.image.loaded.regulation.enable s.brg.line = _
    rw [hline]
    rfl
  · rw [rota]; rfl
  · rw [firing, regulator]; rfl
  · rw [regulator]; exact demand
  · rw [latch, record, runPermit]
    unfold Turbine.load
    rw [hc]
    exact ⟨rfl, rfl, rfl⟩
  · rw [settings]
    unfold Image.loaded
    rw [hc]
    rfl

end Sys2Proof.Machine
end

section
/-! PROOFS. What the commands of the Saw Sequencer do (chapter 8). -/

namespace Sys2Proof.Machine

/-! ### Running up (R124 to R127) -/

/-- The saw of a start queued: its entry WAITING with the surge as its watts, the others as they were (R124). -/
theorem sawStarted_entries (s : State) (w : Nat) (d : Bool) (hs : s.entryState sawEntry = .off) :
    (s.sawStarted w d).entryState sawEntry = .waiting ∧ ((s.sawStarted w d).load sawEntry).fields.watts = w
      ∧ (∀ e : Entry, e ≠ sawEntry → (s.sawStarted w d).load e = s.load e)
      ∧ sawEntry ∈ (s.sawStarted w d).adu.queue
      ∧ (s.sawStarted w d).posted =
          s.posted ++ [.noticeDelivery .sawStage 14 1, .noticeDelivery .entryChanged 14 (1 + 16)] := by
  obtain ⟨t, ht⟩ : ∃ t : State, t = s.changeStage { s.sws with stage := .waiting, lastStop := none } .sawStart :=
    ⟨_, rfl⟩
  obtain ⟨u, hu⟩ : ∃ u : State,
      u = t.setLoad sawEntry { t.load sawEntry with fields := { (t.load sawEntry).fields with watts := w } } := ⟨_, rfl⟩
  have loads (e : Entry) : t.load e = s.load e := by rw [ht]; rfl
  have saw : u.load sawEntry = { s.load sawEntry with fields := { (s.load sawEntry).fields with watts := w } } := by
    rw [hu, load_setLoad_same, loads]
  have off : u.entryState sawEntry = .off := (congrArg Load.state saw).trans hs
  have started (e : Entry) : (s.sawStarted w d).load e = (u.moveEntry sawEntry .waiting .sawStart).load e := by
    rw [hu, ht]; rfl
  have queue : (s.sawStarted w d).adu.queue = (u.moveEntry sawEntry .waiting .sawStart).adu.queue := by
    rw [hu, ht]; rfl
  have posted : (s.sawStarted w d).posted = (u.moveEntry sawEntry .waiting .sawStart).posted := by
    rw [hu, ht]; rfl
  refine ⟨?_, ?_, fun e he => ?_, ?_, ?_⟩
  · rw [State.entryState, started, load_moveEntry_same]
  · rw [started, load_moveEntry_same, saw]
  · rw [started, load_moveEntry_other _ _ _ he, hu, load_setLoad_other _ _ he, loads]
  · rw [queue, adu_moveEntry_queued u sawEntry .sawStart (.inl off)]
    exact (mem_queueWith _ _ _ _ _).mpr (.inl rfl)
  · rw [posted, State.moveEntry_posted, hu, State.setLoad_posted, ht]
    exact List.append_assoc _ _ _

/-- Settles O48. -/
theorem sawRunsUp : Obligations.SawRunsUp := by
  refine ⟨fun s surge b d w hrun hb hl hs he hestop htrip hw => ?_,
    fun s surge b d hrun hb => ⟨fun hl => ?_, fun hl hs => ?_, fun hl hs he hestop => ?_,
      fun hl hs he hestop htrip => ?_⟩,
    fun s hrun hs hestop he => next_running hrun ((if_pos ⟨hs, he⟩).trans (if_neg ?_)),
    fun s start hrun hs hd he => next_running hrun (if_pos ?_),
    fun s start hrun hs hd he => next_running hrun ((if_pos ?_).trans ?_)⟩
  · obtain ⟨state, watts, others, queued, posted⟩ := sawStarted_entries s w d he
    refine ⟨_, next_taken (t := s.sawStarted w d) (r := if w = surge.toNat then .done else .clamped)
      ⟨hrun, rfl⟩ ?_ ?_ ?_, replied_answer rfl, rfl, ?_, ?_, fun e he => ?_, rfl, ?_, ?_⟩
    · subst hw
      dsimp only
      rw [hb]
      dsimp only
      rw [if_neg (by rw [hl]; exact Bool.noConfusion), if_neg (by rw [hs, he]; simp),
        if_neg (by rw [hestop]; exact Bool.noConfusion), if_neg (by rw [htrip]; exact Bool.noConfusion)]
      rfl
    · split <;> exact Result.noConfusion
    · split <;> exact Result.noConfusion
    · rw [entryState_answer]; exact state
    · rw [load_answer]; exact watts
    · rw [load_answer]; exact others e he
    · rw [State.answer_adu]; exact queued
    · rw [State.answer_posted]; exact posted
  · refine next_taken ⟨hrun, rfl⟩ ?_ Result.noConfusion Result.noConfusion
    dsimp only
    rw [hb]
    exact if_pos hl
  · refine next_taken ⟨hrun, rfl⟩ ?_ Result.noConfusion Result.noConfusion
    dsimp only
    rw [hb]
    dsimp only
    rw [if_neg (by rw [hl]; exact Bool.noConfusion), if_pos (.inl hs)]
    rfl
  · refine next_taken ⟨hrun, rfl⟩ ?_ Result.noConfusion Result.noConfusion
    dsimp only
    rw [hb]
    dsimp only
    rw [if_neg (by rw [hl]; exact Bool.noConfusion), if_neg (by rw [hs, he]; simp), if_pos hestop]
    rfl
  · refine next_taken ⟨hrun, rfl⟩ ?_ Result.noConfusion Result.noConfusion
    dsimp only
    rw [hb]
    dsimp only
    rw [if_neg (by rw [hl]; exact Bool.noConfusion), if_neg (by rw [hs, he]; simp),
      if_neg (by rw [hestop]; exact Bool.noConfusion), if_pos htrip]
    rfl
  · rw [hestop]; exact Bool.noConfusion
  · show (_ && _) = true
    rw [decide_eq_true hs, ranOut_some hd he]
    rfl
  · show (_ && _) = true
    rw [decide_eq_true hs, ranOut_some hd he]
    rfl
  · split
    · next closed => exact completeChangeover_not _ (.inr (.inr closed))
    · next opened => exact if_pos ⟨hs, rfl, Bool.eq_false_iff.mpr opened⟩

/-! ### Supervision (R128 to R130, R132) -/

/-- The level of an auxiliary taken up (R127). -/
def State.withAux (s : State) (k : Contactor) (closed : Bool) : State :=
  { s with sws := { s.sws with aux := s.sws.aux.set k closed } }

/-- A change of an auxiliary while running: its level is taken up, then it is checked or unchecked (R128, R129). -/
theorem exec_auxChange {s t : State} {k : Contactor} {closed : Bool} (hrun : s.phase = .running)
    (hk : s.sws.aux.get k ≠ closed)
    (h : (if (s.sws.checks.get k).isSome then (s.withAux k closed).completeChangeover
      else (s.withAux k closed).uncommandedChange k closed) = t) :
    exec (.auxChange k closed) s = .next t := by
  have step : exec (.auxChange k closed) s = .next (if s.sws.aux.get k = closed then s
      else (s.withAux k closed).whenRunning fun t =>
        if (t.sws.checks.get k).isSome then t.completeChangeover else t.uncommandedChange k closed) := rfl
  have running : (s.withAux k closed).phase = .running := hrun
  rw [step, if_neg hk, whenRunning_running _ _ running]
  exact congrArg _ h

/-- Settles O49. -/
theorem contactorsAreWatched : Obligations.ContactorsAreWatched := by
  refine ⟨fun s k start hrun hc he => next_running hrun ((if_pos (ranOut_some hc he)).trans ?_),
    fun s k closed hrun hk hc hs => ?_,
    fun s k closed hrun hk hc hs =>
      exec_auxChange hrun hk ((if_pos hc).trans (completeChangeover_not (s.withAux k closed) (.inl hs))),
    fun s k hrun hs hc hk hopen hnone => ?_, fun s start hrun hs hl he hm => ?_⟩
  · split
    · rfl
    · exact enterSawFault_eq s k .noConfirm .feedback
  · have fault : (s.withAux k closed).uncommandedChange k closed =
        (s.withAux k closed).enterSawFault k .uncommanded .feedback := by
      have stage : (s.withAux k closed).sws.stage = .delta := hs
      unfold State.uncommandedChange
      rw [stage]
    have step := exec_auxChange hrun hk (if_neg (by rw [hc]; exact Bool.noConfusion))
    rw [fault, enterSawFault_eq] at step
    refine ⟨_, step, rfl, rfl, rfl, ?_, rfl⟩
    exact congrArg (fun g => some (SawFault.mk k .uncommanded g s.timebase)) hs
  · have opened : (s.withAux k false).sws.auxOpen = true := by
      show (!(s.sws.aux.set k false).main && !(s.sws.aux.set k false).star && !(s.sws.aux.set k false).delta) = true
      rw [hopen]
      rfl
    have off : (s.withAux k false).uncommandedChange k false =
        (s.withAux k false).reachOff { (s.withAux k false).sws with
          opened := (s.withAux k false).sws.opened.set k true, stopping := none } .contactorsOpen := by
      have stage : (s.withAux k false).sws.stage = .stopping := hs
      unfold State.uncommandedChange
      rw [stage]
      exact if_pos opened
    have step := exec_auxChange (closed := false) hrun (by rw [hk]; exact Bool.noConfusion) (if_neg (by rw [hc]; exact Bool.noConfusion))
    rw [off, reachOff_empty (s.withAux k false) _ _ hnone] at step
    exact ⟨_, step, rfl, rfl, rfl, rfl⟩
  · have due : s.stoppingLimitDue = true := by
      unfold State.stoppingLimitDue
      rw [decide_eq_true hs, ranOut_some hl he]
      rfl
    have lowest : s.sws.lowestClosed = some .main := List.find?_cons_of_pos hm
    have step : exec .stoppingLimitExpiry s = .next (s.enterSawFault .main .notOpen .notOpen) := by
      refine next_running hrun ((if_pos due).trans ?_)
      rw [lowest]
    rw [enterSawFault_eq] at step
    refine ⟨_, step, rfl, rfl, rfl, ?_, rfl⟩
    exact congrArg (fun g => some (SawFault.mk .main .notOpen g s.timebase)) hs

/-! ### Stops and the clearing of a fault (R131 to R137) -/

/-- A stop of a running saw with AUX_MAIN closed (R131, R132). -/
theorem stop_effect (s : State) (c : SawCause) (h : s.sws.stage ∈ [SawStage.star, .changeover, .delta])
    (hm : s.sws.aux.main = true) :
    s.stop c =
      { s with
        sws :=
          { s.sws with
            stage := .stopping, commands := ⟨false, false, false⟩, checks := ⟨none, none, none⟩
            dwell := none, dead := none, stopping := some s.timebase, lastStop := some c
            opened := ⟨false, false, false⟩ }
        posted := s.posted ++ [.noticeDelivery .sawStage 14 (5 + 16 * c.number)] } :=
  stop_running s c h (by unfold Saw.auxOpen; rw [hm]; rfl)

/-- The emergency stop's level taken up (R133). -/
def State.withEstop (s : State) (asserted : Bool) : State := { s with sws := { s.sws with estop := asserted } }

theorem auxOpen_iff {w : Saw} : w.auxOpen = true ↔ w.aux = ⟨false, false, false⟩ := by
  unfold Saw.auxOpen
  obtain ⟨main, star, delta⟩ := w.aux
  cases main <;> cases star <;> cases delta <;> simp

/-- Settles O50. -/
theorem sawIsStopped : Obligations.SawIsStopped := by
  refine ⟨fun s cause i hrun hs hm hi => ?_,
    fun s p hrun hp hs => ?_, fun s hrun he => ?_,
    fun s hrun => ⟨fun hl => next_taken ⟨hrun, rfl⟩ (if_pos hl) Result.noConfusion Result.noConfusion,
      fun hl ha => ?_, fun hl ha hs hnone => ?_⟩⟩
  · have stopped := stop_effect s cause hs hm
    rcases hi with ⟨rfl, rfl⟩ | ⟨rfl, rfl⟩ | ⟨rfl, rfl⟩ | ⟨rfl, rfl⟩ | ⟨rfl, rfl, he⟩
    · exact ⟨_, next_taken ⟨hrun, rfl⟩ (congrArg State.done stopped) Result.noConfusion Result.noConfusion, rfl, rfl, rfl⟩
    · exact ⟨_, next_taken ⟨hrun, rfl⟩ (congrArg State.done stopped) Result.noConfusion Result.noConfusion, rfl, rfl, rfl⟩
    · exact ⟨_, next_running hrun stopped, rfl, rfl, rfl⟩
    · exact ⟨_, next_running hrun stopped, rfl, rfl, rfl⟩
    · have changed : exec (.sawEstopChange true) s = .next (if s.sws.estop = true then s
          else (s.withEstop true).whenRunning fun t => if true then t.stop .estop else t) := rfl
      have running : (s.withEstop true).phase = .running := hrun
      have step := stop_effect (s.withEstop true) .estop hs hm
      rw [if_neg (by rw [he]; exact Bool.noConfusion), whenRunning_running _ _ running, if_pos rfl, step] at changed
      exact ⟨_, changed, rfl, rfl, rfl⟩
  · have stopped : s.stop (if p = .s then .stopPortS else .stopPortG) = s := stop_rest s _ hs
    have serves : s.serves .sawStop p := by rcases hp with rfl | rfl <;> exact ⟨hrun, rfl⟩
    exact next_taken serves (congrArg State.done stopped) Result.noConfusion Result.noConfusion
  · have changed : exec (.sawEstopChange false) s = .next (if s.sws.estop = false then s
        else (s.withEstop false).whenRunning fun t => if false then t.stop .estop else t) := rfl
    have running : (s.withEstop false).phase = .running := hrun
    rw [if_neg (by rw [he]; exact Bool.noConfusion), whenRunning_running _ _ running] at changed
    exact changed
  · have closed : s.sws.auxOpen = false := by
      rw [Bool.eq_false_iff]
      intro h
      exact ha (auxOpen_iff.mp h)
    refine next_taken ⟨hrun, rfl⟩ ((if_neg ?_).trans (if_pos closed)) Result.noConfusion Result.noConfusion
    rw [hl]; exact Bool.noConfusion
  · have opened : s.sws.auxOpen = true := auxOpen_iff.mpr ha
    have cleared := returnDisplaced_none (s.changeStage { s.sws with stage := .off, latch := false, record := none } .cleared) hnone
    refine next_taken ⟨hrun, rfl⟩ ((if_neg ?_).trans ((if_neg ?_).trans ((if_pos hs).trans (congrArg State.done cleared))))
      Result.noConfusion Result.noConfusion
    · rw [hl]; exact Bool.noConfusion
    · rw [opened]; exact Bool.noConfusion

end Sys2Proof.Machine
end

section
/-! PROOFS. Trips and gate permits of the Turbine Supervisor (sections 9.2 and 9.5). -/

namespace Sys2Proof.Machine

/-! ### Gate permits (R152, R153) -/

/-- A port that is not G may not ask for a gate movement. -/
theorem gate_denied {p : Port} (setup : Bool) (hp : p ≠ .g) :
    RequestName.gateOpen.permits p setup = false ∧ RequestName.gateClose.permits p setup = false := by
  cases p with
  | g => exact absurd rfl hp
  | s => exact ⟨rfl, rfl⟩
  | h => exact ⟨rfl, rfl⟩

theorem amountOk_of {a : Byte} (low : 1 ≤ a.toNat) (high : a.toNat ≤ 200) : amountOk a = true := by
  unfold amountOk
  rw [decide_eq_true low, decide_eq_true high]
  rfl

theorem amountOk_not {a : Byte} (h : a = 0 ∨ 200 < a.toNat) : amountOk a = false := by
  unfold amountOk
  rcases h with rfl | h
  · rfl
  · rw [decide_eq_false (Nat.not_le.mpr h), Bool.and_false]

theorem amountOk_of_ne {a : Byte} (low : 1 ≤ a.toNat) (high : a.toNat ≤ 200) : ¬ amountOk a = false := by
  rw [amountOk_of low high]; exact Bool.noConfusion

/-- Settles O53. -/
theorem gateOpenIsJudged : Obligations.GateOpenIsJudged := by
  refine ⟨fun s a hrun h => ⟨next_malformed ⟨hrun, rfl⟩ (if_pos (amountOk_not h)),
      next_malformed ⟨hrun, rfl⟩ (if_pos (amountOk_not h))⟩,
    fun s a hrun low high => ?_,
    fun s a p hrun hp => ⟨next_denied hrun (gate_denied _ hp).1, next_denied hrun (gate_denied _ hp).2⟩⟩
  have judged (r : Result) (d : List Byte)
      (h : (if s.tsv.latch then s.refuse .tripped
        else if s.tsv.lastSatHigh = some true then s.refuse .saturated else (s, .done, [a])) = (s, r, d))
      (hm : r ≠ .malformed) (hd : r ≠ .denied) :
      exec (.gateOpen .g a) s = .next (s.answer .g 0x50 r d) :=
    next_taken ⟨hrun, rfl⟩ ((if_neg (amountOk_of_ne low high)).trans h) hm hd
  split
  · next latch => exact judged _ _ (if_pos latch) Result.noConfusion Result.noConfusion
  · next latch =>
    split
    · next sat => exact judged _ _ ((if_neg latch).trans (if_pos sat)) Result.noConfusion Result.noConfusion
    · next sat => exact judged _ _ ((if_neg latch).trans (if_neg sat)) Result.noConfusion Result.noConfusion

/-- Settles O54. -/
theorem gateCloseSpendsTokens : Obligations.GateCloseSpendsTokens := by
  refine ⟨fun s a hrun low high table latch => next_taken ⟨hrun, rfl⟩
      ((if_neg (amountOk_of_ne low high)).trans (if_pos ⟨table, latch⟩)) Result.noConfusion Result.noConfusion,
    fun s a granted hrun low high h hg => next_taken ⟨hrun, rfl⟩
      ((if_neg (amountOk_of_ne low high)).trans ((if_neg ?_).trans ?_)) Result.noConfusion Result.noConfusion,
    fun s start hrun hacc due few => next_running hrun ((if_pos (ranOut_some hacc due)).trans ?_)⟩
  · rintro ⟨table, latch⟩
    rcases h with empty | set
    · exact table empty
    · exact Bool.noConfusion (latch.symm.trans set)
  · rw [hg]; rfl
  · have gained : min 50 (s.tsv.tokens + 1) = s.tsv.tokens + 1 := Nat.min_eq_right few
    simp only [gained, Nat.reduceEqDiff]

/-! ### Trips and their reset (R143 to R147) -/

/-- What a trip with the latch clear announces (R143). -/
theorem tripWith_posted {s : State} (c : TripCause) (f : Nat) (h : s.tsv.latch = false) :
    (s.tripWith c f).posted =
      s.posted
        ++ (if Direction.tripped = s.tsv.direction then [] else [.noticeDelivery .gateAdvice 0 3])
        ++ [.faultRaise ⟨.overspeedTrip, .turbine true⟩, .noticeDelivery .trip 0 c.number] := by
  unfold State.tripWith
  rw [if_neg (by rw [h]; exact Bool.noConfusion)]
  dsimp only
  rw [setAdvice_eq]
  exact List.append_assoc _ [_] [_]

theorem requestTime_tripWith (s : State) (c : TripCause) (f : Nat) (p : Port) :
    (s.tripWith c f).requestTime p = s.requestTime p := by
  rw [tripWith_frame]
  exact requestTime_congr rfl rfl

theorem requestTime_setAdvice (s : State) (d : Direction) (x : Int) (p : Port) :
    (s.setAdvice d x).requestTime p = s.requestTime p := by
  rw [setAdvice_eq]
  exact requestTime_congr rfl rfl

/-- The direction and excess the last A and the band give (R150). -/
theorem computedAdvice_of {s : State} {mid : Nat} {direction : Direction} {excess : Int}
    (hmid : mid = (s.settings.supervision.adviceLow + s.settings.supervision.adviceHigh) / 2)
    (hnone : s.tsv.lastA = none → direction = .hold ∧ excess = 0)
    (hsome : ∀ last a, s.tsv.lastA = some last → a = (last + 8) / 16 →
      excess = (a : Int) - mid
        ∧ direction =
            (if s.settings.supervision.adviceHigh < a then .closeGate
             else if a < s.settings.supervision.adviceLow then .openGate else .hold)) :
    s.computedAdvice = (direction, excess) := by
  unfold State.computedAdvice
  cases h : s.tsv.lastA with
  | none =>
    obtain ⟨rfl, rfl⟩ := hnone h
    rfl
  | some last =>
    obtain ⟨hx, hd⟩ := hsome last _ h rfl
    rw [adviceOf_some, hd, hx, hmid]

/-- Settles O52. -/
theorem tripsAreTaken : Obligations.TripsAreTaken := by
  refine ⟨fun s p hrun clear => ?_, fun s p hrun set => ?_, fun s hrun => ⟨fun clear => ?_, fun set no => ?_,
      fun set ok mid direction excess hmid hnone hsome => ?_⟩,
    fun s start hrun href due => next_running hrun (if_pos ?_),
    fun s hrun mark write save => next_running hrun (if_pos ?_), fun s w hrun write mark => next_running hrun ?_⟩
  · have tsv := tripWith_clear s .requested (s.tsv.lastF.getD 0) clear
    have posted := tripWith_posted .requested (s.tsv.lastF.getD 0) clear
    have frame := tripWith_frame s .requested (s.tsv.lastF.getD 0)
    obtain ⟨t, ht⟩ : ∃ t, t = s.tripWith .requested (s.tsv.lastF.getD 0) := ⟨_, rfl⟩
    have time := requestTime_tripWith s .requested (s.tsv.lastF.getD 0) p
    rw [← ht] at tsv posted frame time
    refine ⟨t.answer p RequestName.trip.code .done [], next_taken ⟨hrun, rfl⟩ (congrArg (·, Result.done, []) ht.symm)
      Result.noConfusion Result.noConfusion, replied_answer time, ?_, ?_, ?_, ?_, ?_, ?_⟩
    · rw [State.answer_tsv, tsv]
    · rw [State.answer_posted, posted]
      exact List.mem_append_right _ (List.mem_cons_self ..)
    · rw [State.answer_posted, posted]
      exact List.mem_append_right _ (List.mem_cons_of_mem _ (List.mem_cons_self ..))
    · rw [State.answer_sws, frame]
    · rw [State.answer_adu, frame]
    · rw [State.answer_ltc, frame]
  · refine next_taken ⟨hrun, rfl⟩ ?_ Result.noConfusion Result.noConfusion
    rw [tripWith_set s _ _ set]
    unfold State.raise State.ownOf
    rw [set]
    rfl
  · exact next_taken ⟨hrun, rfl⟩ (if_pos clear) Result.noConfusion Result.noConfusion
  · exact next_taken ⟨hrun, rfl⟩ ((if_neg (by rw [set]; exact Bool.noConfusion)).trans (if_pos no))
      Result.noConfusion Result.noConfusion
  · have advice := computedAdvice_of hmid hnone hsome
    obtain ⟨u, hu⟩ : ∃ u : State,
        u = { s with tsv := { s.tsv with latch := false, runPermit := true, mark := .pending } } := ⟨_, rfl⟩
    have computed : u.computedAdvice = (direction, excess) := by rw [hu]; exact advice
    have taken : exec (.tripReset .g) s =
        .next (((u.notice .trip 0 0).setAdvice direction excess).answer .g RequestName.tripReset.code .done []) := by
      refine next_taken ⟨hrun, rfl⟩ ((if_neg (by rw [set]; exact Bool.noConfusion)).trans
        ((if_neg (by rw [ok]; exact Bool.noConfusion)).trans ?_)) Result.noConfusion Result.noConfusion
      rw [← hu]
      dsimp only
      rw [computed]
      rfl
    refine ⟨_, taken, replied_answer ?_, ?_, ?_⟩
    · rw [requestTime_setAdvice, hu]
      rfl
    · rw [State.answer_tsv, setAdvice_eq, hu]
      rfl
    · rw [State.answer_posted, setAdvice_eq, direction_number, hu]
      rfl
  · unfold State.referenceDue
    rw [href]
    exact decide_eq_true due
  · unfold State.areaWriteDue
    rw [mark, write, save]
    rfl
  · rw [write]
    dsimp only
    rw [if_pos mark]
    unfold State.startAreaWrite
    rw [if_neg ?_]
    · rfl
    · exact Bool.noConfusion

end Sys2Proof.Machine
end

section
/-! PROOFS. What the Turbine Supervisor makes of records, changes of state, shaft pulses and its timers
(sections 9.2 to 9.4). -/

namespace Sys2Proof.Machine

/-! ### The state of the Turbine Supervisor alone moves -/

/-- From one state to another the Turbine Supervisor and the announcements alone may differ. -/
def TurbineOnly (s t : State) : Prop := t = { s with tsv := t.tsv, posted := t.posted }

namespace TurbineOnly
variable {s t u : State}

theorem refl : TurbineOnly s s := rfl

theorem intro {v : Turbine} {q : List Instr} (h : t = { s with tsv := v, posted := q }) : TurbineOnly s t := by
  subst h; rfl

theorem trans (h : TurbineOnly s t) (g : TurbineOnly t u) : TurbineOnly s u :=
  Eq.trans (g : u = { t with tsv := u.tsv, posted := u.posted })
    (congrArg (fun x : State => { x with tsv := u.tsv, posted := u.posted })
      (h : t = { s with tsv := t.tsv, posted := t.posted }))

theorem settings (h : TurbineOnly s t) : t.settings = s.settings := by
  have eq : t = { s with tsv := t.tsv, posted := t.posted } := h
  rw [eq]

end TurbineOnly

/-! ### The overspeed counts at a record (R144) -/

/-- A trip where a count has reached its limit. -/
def State.tripIf (s : State) (trips : Bool) (c : TripCause) (f : Nat) : State :=
  if trips then s.tripWith c f else s

theorem tripIf_only (s : State) (trips : Bool) (c : TripCause) (f : Nat) : TurbineOnly s (s.tripIf trips c f) := by
  cases trips with
  | true => exact tripWith_frame s c f
  | false => exact TurbineOnly.refl

/-- What the Turbine Supervisor holds of a record, with its counts and the latch. -/
structure Counts where
  lastF : Option Nat
  lastSatHigh : Option Bool
  lastA : Option Nat
  lineCount : Nat
  satCount : Nat
  adviceCount : Nat
  latch : Bool

def Turbine.counts (v : Turbine) : Counts :=
  { lastF := v.lastF, lastSatHigh := v.lastSatHigh, lastA := v.lastA, lineCount := v.lineCount,
    satCount := v.satCount, adviceCount := v.adviceCount, latch := v.latch }

theorem tripIf_counts (s : State) (trips : Bool) (c : TripCause) (f : Nat) :
    (s.tripIf trips c f).tsv.counts = { s.tsv.counts with latch := s.tsv.latch || trips } := by
  cases trips with
  | false => simp [State.tripIf, Turbine.counts]
  | true =>
    show (s.tripWith c f).tsv.counts = _
    cases h : s.tsv.latch with
    | true => rw [tripWith_set s c f h]; simp [Turbine.counts, h]
    | false => rw [tripWith_clear s c f h]; rfl

/-- The third line overspeed in a row (R144). -/
def State.lineOver (s : State) (r : RegRecord) : Bool :=
  decide (s.settings.supervision.overspeedF ≤ r.f ∧ s.tsv.lineCount + 1 = 3)

/-- The twenty-fifth saturated overspeed in a row (R144). -/
def State.satOver (s : State) (r : RegRecord) : Bool :=
  decide (r.satHigh = true ∧ (s.settings.supervision.satMargin : Int) ≤ r.e ∧ s.tsv.satCount + 1 = 25)

theorem countLine_eq (s : State) (r : RegRecord) :
    s.countLine r =
      { s with
        tsv :=
          { s.tsv with
            lineCount :=
              if s.settings.supervision.overspeedF ≤ r.f ∧ s.tsv.lineCount + 1 ≠ 3 then s.tsv.lineCount + 1
              else 0 } }.tripIf (s.lineOver r) .lineOverspeed r.f := by
  unfold State.countLine State.tripIf State.lineOver
  by_cases h : s.settings.supervision.overspeedF ≤ r.f
  · by_cases third : s.tsv.lineCount + 1 = 3
    · simp [h, third]
    · simp [h, third]
  · simp [h]

theorem countSaturated_eq (s : State) (r : RegRecord) :
    s.countSaturated r =
      { s with
        tsv :=
          { s.tsv with
            satCount :=
              if r.satHigh = true ∧ (s.settings.supervision.satMargin : Int) ≤ r.e ∧ s.tsv.satCount + 1 ≠ 25 then
                s.tsv.satCount + 1
              else 0 } }.tripIf (s.satOver r) .saturatedOverspeed r.f := by
  unfold State.countSaturated State.tripIf State.satOver
  by_cases h : r.satHigh = true ∧ (s.settings.supervision.satMargin : Int) ≤ r.e
  · obtain ⟨high, margin⟩ := h
    by_cases last : s.tsv.satCount + 1 = 25
    · simp [high, margin, last]
    · simp [high, margin, last]
  · rw [if_neg h, if_neg fun trips => h ((of_decide_eq_true trips).imp_right And.left),
      if_neg fun ⟨high, margin, _⟩ => h ⟨high, margin⟩]

/-! ### The advice and the slip window at a record (R150, R151) -/

theorem countAdvice_counts (s : State) :
    s.countAdvice.tsv.counts =
      { s.tsv.counts with adviceCount := if s.tsv.adviceCount + 1 = 100 then 0 else s.tsv.adviceCount + 1 } := by
  rw [countAdvice_eq]
  split
  · next h => rw [setAdvice_eq, if_pos h.1]; rfl
  · rfl

theorem countAdvice_only (s : State) : TurbineOnly s s.countAdvice := by
  rw [countAdvice_eq]
  split
  · rw [setAdvice_eq]; rfl
  · rfl

theorem judgeWindow_only (s : State) : TurbineOnly s s.judgeWindow := by
  rw [judgeWindow_eq s _ rfl]; rfl

theorem openWindow_only (s : State) : TurbineOnly s s.openWindow := rfl

theorem countWindow_only (s : State) : TurbineOnly s s.countWindow := by
  rw [countWindow_eq]
  split
  · rfl
  · split
    · rfl
    · split
      · exact (judgeWindow_only s).trans (openWindow_only _)
      · rfl

theorem countWindow_counts (s : State) : s.countWindow.tsv.counts = s.tsv.counts := by
  rw [countWindow_eq]
  split
  · rfl
  · split
    · rfl
    · split
      · rw [judgeWindow_eq s _ rfl]; rfl
      · rfl

/-- The advice at a record with the A of that record stored (R150). -/
theorem countAdvice_advised {s : State} {due : Bool} {last a mid : Nat} (hlast : s.tsv.lastA = some last)
    (ha : a = (last + 8) / 16)
    (hmid : mid = (s.settings.supervision.adviceLow + s.settings.supervision.adviceHigh) / 2)
    (hdue : due = true ↔ s.tsv.adviceCount + 1 = 100 ∧ s.tsv.latch = false) {d : Direction}
    (hd : d =
      if due = false then s.tsv.direction
      else if s.settings.supervision.adviceHigh < a then .closeGate
      else if a < s.settings.supervision.adviceLow then .openGate else .hold) :
    s.countAdvice =
      { s with
        tsv :=
          { s.tsv with
            adviceCount := if s.tsv.adviceCount + 1 = 100 then 0 else s.tsv.adviceCount + 1
            direction := d, excess := if due = false then s.tsv.excess else (a : Int) - mid }
        posted := s.posted ++ (if d = s.tsv.direction then [] else [.noticeDelivery .gateAdvice 0 d.number]) } := by
  rw [countAdvice_eq]
  cases due with
  | false =>
    rw [if_neg fun h => Bool.noConfusion (hdue.mpr h), hd]
    simp
  | true =>
    have now := hdue.mp rfl
    have computed : s.computedAdvice = (d, (a : Int) - mid) := by
      unfold State.computedAdvice
      rw [hlast, adviceOf_some, hd, ha, hmid]
      rfl
    rw [if_pos now, setAdvice_eq, computed, if_pos now.1]
    rfl

/-- The slip window at a record (R151). -/
theorem countWindow_judged {s : State} {judged strike : Bool} {k100 : Nat}
    (hk : k100 = s.settings.supervision.k100)
    (hjudged : judged = true ↔ 0 < k100 ∧ s.tsv.windowOpen = true ∧ s.tsv.windowRecords + 1 = 100)
    (hstrike : strike = true ↔
      s.settings.supervision.slipLimit * k100 < ((s.tsv.windowPulses : Int) - k100).natAbs * 1000) :
    s.countWindow =
      { s with
        tsv :=
          { s.tsv with
            windowOpen := s.tsv.windowOpen || decide (0 < k100)
            windowRecords :=
              if k100 = 0 then s.tsv.windowRecords
              else if judged = true ∨ s.tsv.windowOpen = false then 0 else s.tsv.windowRecords + 1
            windowPulses :=
              if judged = true ∨ 0 < k100 ∧ s.tsv.windowOpen = false then 0 else s.tsv.windowPulses
            strikes :=
              if judged = false then s.tsv.strikes
              else if strike = true ∧ s.tsv.strikes + 1 ≠ 3 then s.tsv.strikes + 1 else 0 }
        posted :=
          s.posted
            ++ (if judged = true ∧ strike = true ∧ s.tsv.strikes + 1 = 3 then
                  [.faultRaise ⟨.beltSlip, .turbine s.tsv.latch⟩] else []) } := by
  have striking : strike = isStrike s.tsv.windowPulses s.settings.supervision.k100 s.settings.supervision.slipLimit := by
    unfold isStrike
    rw [← hk]
    exact Bool.eq_iff_iff.mpr (hstrike.trans decide_eq_true_iff.symm)
  rw [countWindow_eq, ← hk]
  by_cases off : k100 = 0
  · have no : judged = false := Bool.eq_false_iff.mpr fun h => by have := (hjudged.mp h).1; omega
    subst no
    simp [off]
  · have used : 0 < k100 := Nat.pos_of_ne_zero off
    rw [if_neg off]
    by_cases closed : s.tsv.windowOpen = false
    · have no : judged = false := Bool.eq_false_iff.mpr fun h => by simp [closed] at hjudged; simp [hjudged] at h
      subst no
      simp [closed, off, used, State.openWindow]
    · rw [if_neg closed]
      have opened : s.tsv.windowOpen = true := Bool.not_eq_false _ ▸ closed
      by_cases full : s.tsv.windowRecords + 1 = 100
      · have yes : judged = true := hjudged.mpr ⟨used, opened, full⟩
        subst yes
        rw [if_pos full, judgeWindow_eq s strike striking]
        simp [off, used, State.openWindow]
      · have no : judged = false := Bool.eq_false_iff.mpr fun h => full (hjudged.mp h).2.2
        subst no
        simp [full, opened, off, used]

/-! ### A record (R144, R150, R151) -/

theorem exec_recordAtTurbine {s : State} (r : RegRecord) (hrun : s.phase = .running) :
    exec (.recordAtTurbine r) s =
      .next ((((s.storeRecord r).countLine r).countSaturated r).countAdvice).countWindow :=
  next_running hrun rfl

theorem countLine_only (s : State) (r : RegRecord) : TurbineOnly s (s.countLine r) := by
  rw [countLine_eq]
  exact TurbineOnly.trans (TurbineOnly.intro rfl) (tripIf_only _ _ _ _)

theorem countSaturated_only (s : State) (r : RegRecord) : TurbineOnly s (s.countSaturated r) := by
  rw [countSaturated_eq]
  exact TurbineOnly.trans (TurbineOnly.intro rfl) (tripIf_only _ _ _ _)

theorem record_only (s : State) (r : RegRecord) :
    TurbineOnly s ((((s.storeRecord r).countLine r).countSaturated r).countAdvice).countWindow :=
  ((((TurbineOnly.trans (TurbineOnly.intro rfl) (countLine_only (s.storeRecord r) r)).trans (countSaturated_only _ r)).trans
    (countAdvice_only _)).trans (countWindow_only _))

theorem countLine_counts (s : State) (r : RegRecord) :
    (s.countLine r).tsv.counts =
      { s.tsv.counts with
        lineCount :=
          if s.settings.supervision.overspeedF ≤ r.f ∧ s.tsv.lineCount + 1 ≠ 3 then s.tsv.lineCount + 1 else 0
        latch := s.tsv.latch || s.lineOver r } := by
  rw [countLine_eq, tripIf_counts]
  rfl

theorem countSaturated_counts (s : State) (r : RegRecord) :
    (s.countSaturated r).tsv.counts =
      { s.tsv.counts with
        satCount :=
          if r.satHigh = true ∧ (s.settings.supervision.satMargin : Int) ≤ r.e ∧ s.tsv.satCount + 1 ≠ 25 then
            s.tsv.satCount + 1
          else 0
        latch := s.tsv.latch || s.satOver r } := by
  rw [countSaturated_eq, tripIf_counts]
  rfl

/-- What the Turbine Supervisor holds after a record. -/
theorem record_counts (s : State) (r : RegRecord) :
    ((((s.storeRecord r).countLine r).countSaturated r).countAdvice).countWindow.tsv.counts =
      { lastF := some r.f, lastSatHigh := some r.satHigh, lastA := some r.a
        lineCount :=
          if s.settings.supervision.overspeedF ≤ r.f ∧ s.tsv.lineCount + 1 ≠ 3 then s.tsv.lineCount + 1 else 0
        satCount :=
          if r.satHigh = true ∧ (s.settings.supervision.satMargin : Int) ≤ r.e ∧ s.tsv.satCount + 1 ≠ 25 then
            s.tsv.satCount + 1
          else 0
        adviceCount := if s.tsv.adviceCount + 1 = 100 then 0 else s.tsv.adviceCount + 1
        latch := s.tsv.latch || s.lineOver r || s.satOver r } := by
  obtain ⟨u, hu⟩ : ∃ u, u = (s.storeRecord r).countLine r := ⟨_, rfl⟩
  obtain ⟨v, hv⟩ : ∃ v, v = u.countSaturated r := ⟨_, rfl⟩
  have line := hu ▸ countLine_counts (s.storeRecord r) r
  have sat := hv ▸ countSaturated_counts u r
  have settings : u.settings = s.settings := hu ▸ (countLine_only (s.storeRecord r) r).settings
  have count : u.tsv.satCount = s.tsv.satCount := congrArg Counts.satCount line
  have latch : u.tsv.latch = (s.tsv.latch || s.lineOver r) := congrArg Counts.latch line
  have limit : u.satOver r = s.satOver r := by unfold State.satOver; rw [settings, count]
  have advice : v.tsv.adviceCount = s.tsv.adviceCount :=
    (congrArg Counts.adviceCount sat).trans (congrArg Counts.adviceCount line)
  rw [← hu, ← hv, countWindow_counts, countAdvice_counts, sat, advice, settings, count, latch, limit, line]
  rfl

/-- A record that reaches no overspeed limit (R144). -/
theorem countLine_quiet {s : State} {r : RegRecord}
    (h : s.settings.supervision.overspeedF ≤ r.f → s.tsv.lineCount + 1 ≠ 3) :
    ∃ n, s.countLine r = { s with tsv := { s.tsv with lineCount := n } } := by
  have quiet : s.lineOver r = false := decide_eq_false fun ⟨fast, third⟩ => h fast third
  exact ⟨_, by rw [countLine_eq, quiet]; rfl⟩

theorem countSaturated_quiet {s : State} {r : RegRecord}
    (h : r.satHigh = true → (s.settings.supervision.satMargin : Int) ≤ r.e → s.tsv.satCount + 1 ≠ 25) :
    ∃ n, s.countSaturated r = { s with tsv := { s.tsv with satCount := n } } := by
  have quiet : s.satOver r = false := decide_eq_false fun ⟨high, margin, last⟩ => h high margin last
  exact ⟨_, by rw [countSaturated_eq, quiet]; rfl⟩

/-- A record stored, with the two overspeed counts. -/
def State.recorded (s : State) (r : RegRecord) (lines sats : Nat) : State :=
  { s with
    tsv :=
      { s.tsv with
        lastF := some r.f, lastSatHigh := some r.satHigh, lastA := some r.a, lineCount := lines,
        satCount := sats } }

theorem record_quiet {s : State} {r : RegRecord}
    (line : s.settings.supervision.overspeedF ≤ r.f → s.tsv.lineCount + 1 ≠ 3)
    (sat : r.satHigh = true → (s.settings.supervision.satMargin : Int) ≤ r.e → s.tsv.satCount + 1 ≠ 25) :
    ∃ lines sats, ((s.storeRecord r).countLine r).countSaturated r = s.recorded r lines sats := by
  obtain ⟨lines, counted⟩ := countLine_quiet (s := s.storeRecord r) line
  obtain ⟨sats, saturated⟩ := countSaturated_quiet (r := r) (s := s.recorded r lines s.tsv.satCount) sat
  exact ⟨lines, sats, (congrArg (State.countSaturated · r) counted).trans saturated⟩

/-! ### Shaft pulses (R148) -/

theorem countShaft_unused {s : State} (period : Nat) (h : s.settings.supervision.shaftLimit = 0) :
    s.countShaft period = s := if_pos h

/-- The fifth short shaft period in a row trips. -/
theorem countShaft_fifth {s : State} {period : Nat} (short : period < s.settings.supervision.shaftLimit)
    (fifth : s.tsv.shaftCount = 4) :
    s.countShaft period =
      { s with tsv := { s.tsv with shaftCount := 0 } }.tripWith .shaftOverspeed (s.tsv.lastF.getD 0) := by
  have used : s.settings.supervision.shaftLimit ≠ 0 := by omega
  exact (if_neg used).trans ((if_pos short).trans (if_pos (by rw [fifth])))

/-- A shaft pulse of a shaft whose standstill is not timed. -/
theorem capturePulse_untimed {s : State} (still : s.tsv.standstill = none) (line : s.tsv.line ≠ .present) :
    s.capturePulse =
      { s with
        tsv :=
          { s.tsv with
            prevPulse := s.tsv.lastPulse, lastPulse := some s.timebase, gap := some s.timebase
            windowPulses :=
              if s.tsv.windowOpen then min 65535 (s.tsv.windowPulses + 1) else s.tsv.windowPulses } } := by
  unfold State.capturePulse
  simp [still, line]

/-- Settles O51. -/
theorem turbineIsWatched : Obligations.TurbineIsWatched := by
  refine ⟨fun s r hrun => ?_,
    fun s r a mid due judged strike k100 hrun line sat ha hmid hk hdue hjudged hstrike => ?_,
    fun s c hrun h => next_running hrun (if_neg h), fun s c hrun h => next_running hrun (if_pos h),
    fun s l hrun => next_running hrun ?_, fun s hrun unused still line => next_running hrun ?_,
    fun s prev hrun last clear four short => ?_,
    fun s start hrun gap due => next_running hrun (if_pos (ranOut_some gap due)),
    fun s start hrun still due => next_running hrun (if_pos (ranOut_some still due))⟩
  · have only := record_only s r
    have counts := record_counts s r
    refine ⟨_, exec_recordAtTurbine r hrun, ?_⟩
    generalize ((((s.storeRecord r).countLine r).countSaturated r).countAdvice).countWindow = t at only counts
    refine ⟨only, congrArg Counts.lastF counts, congrArg Counts.lastSatHigh counts, congrArg Counts.lastA counts,
      congrArg Counts.lineCount counts, congrArg Counts.satCount counts, congrArg Counts.adviceCount counts, ?_⟩
    have latch : t.tsv.latch = (s.tsv.latch || s.lineOver r || s.satOver r) := congrArg Counts.latch counts
    rw [latch, Bool.or_eq_true, Bool.or_eq_true, or_assoc]
    exact or_congr Iff.rfl (or_congr decide_eq_true_iff decide_eq_true_iff)
  · have step := exec_recordAtTurbine r hrun
    obtain ⟨lines, sats, quiet⟩ := record_quiet line sat
    have advised := countAdvice_advised (s := s.recorded r lines sats) (last := r.a) rfl ha hmid hdue rfl
    have windowed := countWindow_judged (s := (s.recorded r lines sats).countAdvice) (judged := judged)
      (strike := strike) (k100 := k100) (by rw [advised]; exact hk) (by rw [advised]; exact hjudged)
      (by rw [advised]; exact hstrike)
    rw [quiet, windowed, advised] at step
    refine ⟨_, step, rfl, ?_⟩
    rw [direction_number]
    rfl
  · unfold State.superviseStandstill State.shaftInUse
    simp only [Bool.or_eq_true, decide_eq_true_eq]
  · rw [capturePulse_untimed still line]
    cases s.tsv.lastPulse with
    | none => rfl
    | some prev => exact countShaft_unused _ unused
  · have step : exec .shaftPulse s = .next (s.capturePulse.countShaft (s.elapsed prev)) :=
      next_running hrun (by rw [last])
    rw [countShaft_fifth (s := s.capturePulse) short four] at step
    have tsv := tripWith_clear { s.capturePulse with tsv := { s.capturePulse.tsv with shaftCount := 0 } }
      .shaftOverspeed (s.capturePulse.tsv.lastF.getD 0) clear
    exact ⟨_, step, by rw [tsv], by rw [tsv], by rw [tsv]; rfl, by rw [tsv], by rw [tsv]⟩

end Sys2Proof.Machine
end

section
/-! PROOFS. What bytes, gaps, responses, resets, breaks and silence do to a port (sections 10.1, 10.3, 10.4). -/

namespace Sys2Proof.Machine

/-! ### Bytes and gaps (R155, R157) -/

/-- The SETUP_EN level taken up (log 8). -/
def State.sampled (s : State) (level : Bool) : State := { s with setupEn := level }

/-- A byte while DE is asserted is disregarded. -/
theorem exec_rxByte_sending {s : State} {p : Port} (b : Byte) (level : Bool) (hrun : s.phase = .running)
    (hde : (s.port p).de = true) : exec (.rxByte p b level) s = .next (s.sampled level) :=
  next_running (s := s.sampled level) hrun (if_pos hde)

/-- A byte while DE is not asserted is judged after what a late gap discards. -/
theorem exec_rxByte {s : State} {p : Port} (b : Byte) (level : Bool) (hrun : s.phase = .running)
    (hde : (s.port p).de = false) :
    exec (.rxByte p b level) s = .next (((s.sampled level).dropLate p).receive p b) :=
  next_running (s := s.sampled level) hrun (if_neg (Bool.eq_false_iff.mp hde))

/-- A byte in time is received as it is. -/
theorem exec_rxByte_timely {s : State} {p : Port} (b : Byte) (level : Bool) (hrun : s.phase = .running)
    (hde : (s.port p).de = false) (h : (s.port p).rx.mode = .hunt ∨ s.elapsed (s.port p).rx.last ≤ 2000) :
    exec (.rxByte p b level) s = .next ((s.sampled level).receive p b) := by
  have timely : (s.sampled level).gapTooLong p = false := by
    show ((s.port p).rx.mode != .hunt && decide (2000 < s.elapsed (s.port p).rx.last)) = false
    rcases h with hunting | short
    · rw [hunting]; rfl
    · rw [decide_eq_false (Nat.not_lt.mpr short), Bool.and_false]
  rw [exec_rxByte b level hrun hde, dropLate_keeps _ p timely]

theorem receive_hunt {s : State} {p : Port} (b : Byte) (h : (s.port p).rx.mode = .hunt) :
    s.receive p b = if b = 0xC3 then s.keepByte p b .length else s := by
  unfold State.receive
  rw [h]

theorem receive_length {s : State} {p : Port} (b : Byte) (h : (s.port p).rx.mode = .length) :
    s.receive p b =
      if b = 0 ∨ 48 < b.toNat then (s.linkFault p .overlong ((s.port p).rx.bytes ++ [b])).hunt p
      else s.keepByte p b .body := by
  unfold State.receive
  rw [h]

/-- A frame discarded with a link fault: the receiver in HUNT, what is sent untouched. -/
theorem port_discarded (s : State) (p : Port) (k : LinkKind) (frame : List Byte) :
    ((s.linkFault p k frame).hunt p).port p =
      { s.port p with
        rx := { (s.port p).rx with mode := .hunt, bytes := [] }
        faults := (s.port p).faults.record k frame } := by
  rw [port_hunt, port_linkFault_same]

/-- Settles O55. -/
theorem framesAreTimed : Obligations.FramesAreTimed := by
  refine ⟨fun s p level hrun hde hunting => ?_, fun s p b level hrun hde hunting other => ?_,
    fun s p b level hrun hde => exec_rxByte_sending b level hrun hde,
    fun s p b level hrun hde mode bytes timely bad => ?_, fun s p hrun mode late => ?_,
    fun s p since r hrun ready due => next_running hrun ?_,
    fun s p since frame hrun sending baud => next_running hrun ?_⟩
  · have step := exec_rxByte_timely 0xC3 level hrun hde (.inl hunting)
    rw [receive_hunt (s := s.sampled level) 0xC3 hunting, if_pos rfl] at step
    refine ⟨_, step, ?_, ?_⟩
    · rw [port_keepByte]; rfl
    · rw [port_keepByte]; rfl
  · rw [exec_rxByte_timely b level hrun hde (.inl hunting), receive_hunt (s := s.sampled level) b hunting,
      if_neg other]
    rfl
  · have step := exec_rxByte_timely b level hrun hde (.inr timely)
    rw [receive_length (s := s.sampled level) b mode, if_pos bad] at step
    refine ⟨_, step, ?_, ?_, ?_⟩
    · rw [port_discarded]
    · rw [port_discarded]; rfl
    · rw [port_discarded]
      exact congrArg (fun l => (s.port p).faults.record .overlong (l ++ [b])) bytes
  · have tooLong : s.gapTooLong p = true := by
      unfold State.gapTooLong
      rw [decide_eq_true late, Bool.and_true]
      exact bne_iff_ne.mpr mode
    have step : exec (.frameTimeout p) s =
        .next ((s.linkFault p .frameTimeout (s.port p).rx.bytes).hunt p) := next_running hrun (if_pos tooLong)
    refine ⟨_, step, ?_, ?_, ?_, ?_, rfl⟩
    · rw [port_discarded]
    · rw [port_discarded]
    · rw [port_discarded]
    · rw [port_discarded]
  · have may : s.mayRespond p = true := by
      unfold State.mayRespond
      rw [ready]
      exact decide_eq_true due
    rw [ready]
    exact if_pos may
  · have de : (s.port p).de = true := by
      unfold PortLink.de
      rw [sending]
    rw [if_pos de]
    unfold State.applyBaud
    rw [port_setPort_same, baud]

/-! ### Resets, breaks and silence (R159 to R161, R167) -/

theorem port_resetPort (s : State) (p : Port) :
    (s.resetPort p).port p =
      { s.port p with
        rx := { (s.port p).rx with mode := .hunt, bytes := [] }
        silence := if (s.port p).present then s.silenceStart p else (s.port p).silence } := by
  have hunted : ((s.hunt p).dropPortKeeps p).port p = (s.hunt p).port p := rfl
  unfold State.resetPort
  rw [port_setPort_same, hunted, port_hunt]

theorem notices_resetPort (s : State) (p : Port) : (s.resetPort p).notices p = (s.notices p).emptied :=
  PerPort.get_set_same _ _ _

theorem masks_resetPort (s : State) (p : Port) : (s.resetPort p).ltc.masks.get p = BitVec.allOnes 6 :=
  PerPort.get_set_same _ _ _

theorem fills_resetPort (s : State) (p : Port) : (s.resetPort p).ltc.fills.get p = Fields.none :=
  PerPort.get_set_same _ _ _

theorem slots_emptied (n : NoticePort) (k : Fin 14) : n.emptied.slots.get k = none := by
  show (Vector.replicate 14 none).get k = none
  simp [Vector.get]

theorem requestTime_resetPort (s : State) (p : Port) : (s.resetPort p).requestTime p = s.requestTime p := by
  unfold State.requestTime
  rw [port_resetPort]
  rfl

/-- A presence timer that has reached its limit. -/
theorem silenceDue_of {s : State} {p : Port} {start : Time} (h : (s.port p).silence = some start)
    (used : s.silenceLimit p ≠ 0) (due : s.silenceLimit p * 1000000 ≤ s.elapsed start) :
    s.silenceDue p = true := by
  unfold State.silenceDue
  rw [decide_eq_true used, ranOut_some h due]
  rfl

/-- Settles O56. -/
theorem portsAreReset : Obligations.PortsAreReset := by
  refine ⟨fun s p i hrun h => ?_, fun s p hrun => next_running hrun rfl,
    fun s p hrun => next_taken ⟨hrun, rfl⟩ rfl Result.noConfusion Result.noConfusion,
    fun s p start hrun other hstart used due => ?_, fun s start hrun hstart used due stage main => ?_⟩
  · obtain ⟨t, ht⟩ : ∃ t, t = s.resetPort p := ⟨_, rfl⟩
    have port := ht ▸ port_resetPort s p
    have notices := ht ▸ notices_resetPort s p
    have masks := ht ▸ masks_resetPort s p
    have fills := ht ▸ fills_resetPort s p
    have loads : t.ltc.loads = s.ltc.loads := by rw [ht]; rfl
    have chain : t.ltc.chain = s.ltc.chain := by rw [ht]; rfl
    have posted : t.posted = s.posted := by rw [ht]; rfl
    have time := ht ▸ requestTime_resetPort s p
    rcases h with rfl | ⟨rfl, hde, unbroken⟩
    · refine ⟨t.answer p RequestName.portReset.code .done [], next_taken ⟨hrun, rfl⟩
        (congrArg (·, Result.done, []) ht.symm) Result.noConfusion Result.noConfusion, ?_⟩
      rw [port_answer_same, notices_answer, State.answer_ltc, State.answer_posted, port, notices, if_pos rfl]
      exact ⟨rfl, rfl, rfl, slots_emptied _, rfl, rfl, rfl, rfl, masks, fills, rfl, loads, chain, posted, rfl,
        fun _ => replied_answer time⟩
    · have step : exec (.lineBreak p) s = .next (t.setPort p { t.port p with broken := true }) :=
        next_running hrun ((if_neg (by rw [hde, unbroken]; exact Bool.noConfusion)).trans (by rw [ht]))
      refine ⟨_, step, ?_⟩
      rw [port_setPort_same, notices_setPort, State.setPort_ltc, State.setPort_posted, port, notices,
        if_neg (show ¬ Instr.lineBreak p = .portReset p from Instr.noConfusion)]
      exact ⟨rfl, rfl, rfl, slots_emptied _, rfl, rfl, rfl, rfl, masks, fills, rfl, loads, chain, posted, rfl,
        Instr.noConfusion⟩
  · have step : exec (.presenceTimerExpiry p) s = .next _ :=
      next_running hrun ((if_pos (silenceDue_of hstart used due)).trans (if_neg other))
    exact ⟨_, step, port_setPort_same .., rfl, List.append_assoc ..⟩
  · obtain ⟨t, ht⟩ : ∃ t : State, t = ((s.setPort .s { s.port .s with present := false, silence := none }).notice
        .portPresence Port.s.number 0).raise .portSilent := ⟨_, rfl⟩
    have step : exec (.presenceTimerExpiry .s) s = .next (t.stop .portSAbsent) :=
      next_running hrun ((if_pos (silenceDue_of hstart used due)).trans (by rw [ht]; rfl))
    have saw : t.sws = s.sws := by rw [ht]; rfl
    have absent : (t.port .s).present = false := by
      rw [ht]
      unfold State.raise State.notice
      rw [port_post, port_post, port_setPort_same]
    rw [stop_effect t .portSAbsent (by rw [saw, stage]; simp) (by rw [saw]; exact main)] at step
    exact ⟨_, step, absent, rfl, rfl, rfl⟩

end Sys2Proof.Machine
end

section
/-! PROOFS. What deliveries, TAKE NOTICES and SET NOTICE CONTROL do to a port's notices (section 10.5). -/

namespace Sys2Proof.Machine

/-! ### Flushes (R164) -/

/-- A flush leaves a port's controls. -/
theorem flush_controls (n : NoticePort) : n.flush = { n with queue := n.flush.queue, slots := n.flush.slots } := by
  by_cases h : n.hold = true
  · rw [flush_held n h]
  · exact (flush_flushed n (Bool.eq_false_iff.mpr h)).2

/-- With nothing pending a flush leaves the queue. -/
theorem flush_empty {n : NoticePort} (h : ∀ k : Fin 14, n.slots.get k = none) : n.flush.queue = n.queue := by
  cases hold : n.hold with
  | true => rw [flush_held n hold]
  | false =>
    obtain ⟨queue, -⟩ := (flush_flushed n hold).1
    have none : (NoticeKind.all.filter fun k => (n.slot k).isSome && !n.mask.getLsbD k.number) = [] :=
      List.filter_eq_nil_iff.mpr fun k _ => by
        have empty : n.slot k = none := h _
        rw [empty]
        exact Bool.noConfusion
    rw [none] at queue
    rw [queue, List.take_nil]
    exact List.append_nil _

/-! ### New controls (R165) -/

/-- A port's notices with new controls and the slots of R165 emptied, before any flush. -/
def NoticePort.controlled (n : NoticePort) (enable hold : Bool) (route mask : NoticeSet) : NoticePort :=
  let m := { n with enable := enable, hold := hold, route := route, mask := mask }.dropSlots (n.route &&& ~~~route)
  if enable then m else { m with slots := Vector.replicate 14 none }

/-- New controls call for a flush (R165). -/
def NoticePort.callsFlush (n : NoticePort) (enable hold : Bool) (mask : NoticeSet) : Bool :=
  enable && ((n.hold && !hold) || decide (n.mask &&& ~~~mask ≠ 0))

theorem control_eq (n : NoticePort) (enable hold : Bool) (route mask : NoticeSet) :
    n.control enable hold route mask =
      if n.callsFlush enable hold mask then (n.controlled enable hold route mask).flush
      else n.controlled enable hold route mask := rfl

section
variable (n : NoticePort) (enable hold : Bool) (route mask : NoticeSet)

theorem controlled_fields :
    n.controlled enable hold route mask =
      { n with
        enable := enable, hold := hold, route := route, mask := mask
        slots := (n.controlled enable hold route mask).slots } := by
  have dropped := (dropSlots_eq { n with enable := enable, hold := hold, route := route, mask := mask }
    (n.route &&& ~~~route)).1
  cases enable with
  | true => exact dropped
  | false => exact congrArg (fun m : NoticePort => { m with slots := Vector.replicate 14 none }) dropped

theorem slot_replicate (m : NoticePort) (k : NoticeKind) (h : m.slots = Vector.replicate 14 none) :
    m.slot k = none := by
  unfold NoticePort.slot
  rw [h]
  simp [Vector.get]

theorem kind_number_lt (k : NoticeKind) : k.number < 14 := by cases k <;> decide

theorem slot_controlled (k : NoticeKind) :
    (n.controlled enable hold route mask).slot k =
      if enable = false ∨ n.route.getLsbD k.number = true ∧ route.getLsbD k.number = false then none
      else n.slot k := by
  cases enable with
  | false => rw [if_pos (.inl rfl)]; exact slot_replicate _ k rfl
  | true =>
    refine ((dropSlots_eq { n with enable := true, hold := hold, route := route, mask := mask }
      (n.route &&& ~~~route)).2 k).trans ?_
    have leaves : (n.route &&& ~~~route).getLsbD k.number =
        (n.route.getLsbD k.number && !route.getLsbD k.number) := by
      rw [BitVec.getLsbD_and, BitVec.getLsbD_not, decide_eq_true (kind_number_lt k), Bool.true_and]
    rw [leaves]
    cases n.route.getLsbD k.number <;> cases route.getLsbD k.number <;> rfl

theorem control_fields :
    n.control enable hold route mask =
      { n with
        enable := enable, hold := hold, route := route, mask := mask
        queue := (n.control enable hold route mask).queue
        slots := (n.control enable hold route mask).slots } := by
  rw [control_eq]
  split
  · exact (flush_controls _).trans
      (congrArg (fun m : NoticePort => { m with
        queue := (n.controlled enable hold route mask).flush.queue
        slots := (n.controlled enable hold route mask).flush.slots }) (controlled_fields n enable hold route mask))
  · exact (controlled_fields n enable hold route mask).trans (by rw [controlled_fields])

theorem queue_controlled : (n.controlled enable hold route mask).queue = n.queue := by
  rw [controlled_fields]

theorem control_queue : n.queue <+: (n.control enable hold route mask).queue := by
  have before := queue_controlled n enable hold route mask
  rw [control_eq]
  split
  · rw [← before]; exact (flush_queue _).1
  · rw [before]

end

theorem kind_of_number : ∀ i : Fin 14, ∃ k ∈ NoticeKind.all, k.number = i.val := by decide

/-- Some kind leaves the mask. -/
theorem leavesMask_iff (old mask : NoticeSet) :
    old &&& ~~~mask ≠ 0 ↔ ∃ k : NoticeKind, old.getLsbD k.number = true ∧ mask.getLsbD k.number = false := by
  have bit {i : Nat} (hi : i < 14) : (old &&& ~~~mask).getLsbD i = (old.getLsbD i && !mask.getLsbD i) := by
    rw [BitVec.getLsbD_and, BitVec.getLsbD_not, decide_eq_true hi, Bool.true_and]
  constructor
  · intro some
    by_contra none
    refine some (BitVec.eq_of_getLsbD_eq fun i hi => ?_)
    obtain ⟨k, -, hk⟩ := kind_of_number ⟨i, hi⟩
    have kept := not_exists.mp none k
    rw [hk] at kept
    rw [bit hi, BitVec.ofNat_eq_ofNat, BitVec.getLsbD_zero]
    cases ho : old.getLsbD i with
    | false => rfl
    | true => cases hm : mask.getLsbD i with
      | true => rfl
      | false => exact absurd ⟨ho, hm⟩ kept
  · rintro ⟨k, ho, hm⟩ zero
    have set := bit (kind_number_lt k)
    rw [zero, ho, hm] at set
    simp at set

theorem callsFlush_iff (n : NoticePort) (enable hold : Bool) (mask : NoticeSet) :
    n.callsFlush enable hold mask = true ↔
      enable = true ∧ (n.hold = true ∧ hold = false
        ∨ ∃ k : NoticeKind, n.mask.getLsbD k.number = true ∧ mask.getLsbD k.number = false) := by
  unfold NoticePort.callsFlush
  rw [Bool.and_eq_true, Bool.or_eq_true, Bool.and_eq_true, Bool.not_eq_true', decide_eq_true_iff,
    leavesMask_iff]

/-- New controls without a flush, or with one that hold forbids. -/
theorem control_unflushed {n : NoticePort} {enable hold : Bool} (route : NoticeSet) {mask : NoticeSet}
    (h : enable = false ∨ hold = true ∨ n.hold = false ∧ ∀ k : NoticeKind,
      n.mask.getLsbD k.number = true → mask.getLsbD k.number = true) :
    n.control enable hold route mask = n.controlled enable hold route mask := by
  rw [control_eq]
  split
  · next flushes =>
    obtain ⟨on, reason⟩ := (callsFlush_iff n enable hold mask).mp flushes
    refine flush_held _ ?_
    rw [controlled_fields]
    rcases h with off | held | ⟨free, keeps⟩
    · exact Bool.noConfusion (on.symm.trans off)
    · exact held
    · rcases reason with ⟨given, -⟩ | ⟨k, old, new⟩
      · exact Bool.noConfusion (free.symm.trans given)
      · exact Bool.noConfusion (new.symm.trans (keeps k old))
  · rfl

/-- New controls that give up hold, or let a kind leave the mask, flush. -/
theorem control_flushed {n : NoticePort} {hold : Bool} (route : NoticeSet) {mask : NoticeSet} (free : hold = false)
    (h : n.hold = true ∨ ∃ k : NoticeKind, n.mask.getLsbD k.number = true ∧ mask.getLsbD k.number = false) :
    Flushed (n.controlled true hold route mask).slot mask n.queue (n.control true hold route mask) := by
  have calls : n.callsFlush true hold mask = true :=
    (callsFlush_iff n true hold mask).mpr ⟨rfl, h.imp_left fun held => ⟨held, free⟩⟩
  have given : (n.controlled true hold route mask).hold = false := by rw [controlled_fields]; exact free
  have flushed := (flush_flushed _ given).1
  have masked : (n.controlled true hold route mask).mask = mask := by rw [controlled_fields]
  rw [masked, queue_controlled] at flushed
  rw [control_eq, if_pos calls]
  exact flushed

/-! ### Deliveries and requests (R163, R165, R166) -/

theorem exec_noticeDelivery {s : State} (k : NoticeKind) (subject value : Nat) (hrun : s.phase = .running) :
    ∃ t x, exec (.noticeDelivery k subject value) s = .next t ∧ t = { s with ntu := t.ntu }
      ∧ x = { kind := k, subject := subject, value := value, time := s.clockMs : Notice }
      ∧ ∀ p, t.notices p = (s.notices p).deliver x := by
  have stamp : s.stamp k subject value = { kind := k, subject := subject, value := value, time := s.clockMs } := by
    unfold State.stamp
    rw [if_pos hrun]
  have step : exec (.noticeDelivery k subject value) s = .next _ :=
    next_released (by rw [hrun]; exact Phase.noConfusion) rfl
  refine ⟨_, s.stamp k subject value, step, rfl, stamp, fun p => ?_⟩
  cases p with
  | g => rfl
  | s => rfl
  | h => rfl

theorem requestTime_setNotices (s : State) (p q : Port) (n : NoticePort) :
    (s.setNotices p n).requestTime q = s.requestTime q := rfl

/-- TAKE NOTICES of a count in range (R166). -/
theorem exec_takeNotices {s : State} (p : Port) {c : Byte} (hrun : s.phase = .running) (low : 1 ≤ c.toNat)
    (high : c.toNat ≤ 4) :
    exec (.takeNotices p c) s =
      .next ((s.setNotices p
        ({ s.notices p with queue := (s.notices p).queue.drop c.toNat } : NoticePort).flush).answer p
          RequestName.takeNotices.code .done
          (n1 ((s.notices p).queue.take c.toNat).length
            ++ ((s.notices p).queue.take c.toNat).flatMap noticeBytes)) :=
  next_taken ⟨hrun, rfl⟩ (if_pos ⟨low, high⟩) Result.noConfusion Result.noConfusion

theorem exec_setNoticeControl {s : State} (p : Port) {e h : Byte} {on hold : Bool} (route mask : Half)
    (hrun : s.phase = .running) (he : yesNo e = some on) (hh : yesNo h = some hold) :
    exec (.setNoticeControl p e h route mask) s =
      .next ((s.setNotices p ((s.notices p).control on hold (route.setWidth 14) (mask.setWidth 14))).answer p
        RequestName.setNoticeControl.code .done []) :=
  next_taken ⟨hrun, rfl⟩ (by rw [he, hh]; rfl) Result.noConfusion Result.noConfusion

theorem setWidth_kind (x : Half) (k : NoticeKind) :
    (x.setWidth 14 : NoticeSet).getLsbD k.number = x.getLsbD k.number := by
  rw [BitVec.getLsbD_setWidth, decide_eq_true (kind_number_lt k), Bool.true_and]

theorem deliver_kept {n : NoticePort} {x : Notice} (h : n.route.getLsbD x.kind.number = false ∨ n.enable = false) :
    n.deliver x = n := by
  refine if_pos ?_
  rcases h with unrouted | off
  · rw [unrouted]; rfl
  · rw [off]; exact Bool.or_true _

theorem deliver_routed {n : NoticePort} {x : Notice} (routed : n.route.getLsbD x.kind.number = true)
    (on : n.enable = true) :
    n.deliver x =
      if !n.hold && !n.mask.getLsbD x.kind.number && decide (n.queue.length < 16) then
        { n with queue := n.queue ++ [x] }
      else n.setSlot x.kind (some x) :=
  if_neg (by rw [routed, on]; exact Bool.noConfusion)

/-- Settles O57. -/
theorem noticesAreKept : Obligations.NoticesAreKept := by
  refine ⟨fun s k subject value p hrun => ?_, fun s p c hrun low high none => ?_,
    fun s p c n hrun low high hn => ?_, fun s p c hrun h => next_malformed ⟨hrun, rfl⟩ (if_neg ?_),
    fun s p e h on hold route mask hrun he hh => ?_, fun s p e h on hold route mask n kept hrun he hh hn hkept => ?_⟩
  · obtain ⟨t, x, step, only, hx, delivered⟩ := exec_noticeDelivery (s := s) k subject value hrun
    have kind : x.kind = k := by rw [hx]
    refine ⟨t, x, step, only, hx, fun off => ?_, fun routed on free unmasked room => ?_,
      fun routed on full => ?_⟩
    · rw [delivered]
      exact deliver_kept (by rw [kind]; exact off)
    · rw [delivered, deliver_routed (by rw [kind]; exact routed) on, kind]
      exact if_pos (by rw [free, unmasked, decide_eq_true room]; rfl)
    · rw [delivered, deliver_routed (by rw [kind]; exact routed) on, kind, if_neg ?_]
      · exact ⟨rfl, slot_setSlot_same _ _ _⟩
      · rcases full with held | masked | long
        · rw [held]; exact Bool.noConfusion
        · rw [masked, Bool.not_true, Bool.and_false]; exact Bool.noConfusion
        · rw [decide_eq_false (Nat.not_lt.mpr long), Bool.and_false]; exact Bool.noConfusion
  · refine ⟨_, _, exec_takeNotices p hrun low high, rfl, ?_, replied_answer (requestTime_setNotices ..)⟩
    rw [notices_answer, notices_setNotices_same]
    exact flush_empty none
  · subst hn
    refine ⟨_, exec_takeNotices p hrun low high, ?_, fun q hq => ?_, ?_, fun held => ?_, fun free => ?_⟩
    · rw [← List.length_take]
      exact replied_answer (requestTime_setNotices ..)
    · rw [notices_answer, notices_setNotices_other _ _ hq]
    · rw [notices_answer, notices_setNotices_same]
      exact flush_controls _
    · rw [notices_answer, notices_setNotices_same]
      exact flush_held _ held
    · rw [notices_answer, notices_setNotices_same]
      exact (flush_flushed { s.notices p with queue := (s.notices p).queue.drop c.toNat } free).1
  · rintro ⟨low, high⟩
    rcases h with rfl | h
    · exact absurd low (by decide)
    · exact absurd high (Nat.not_le.mpr h)
  · refine ⟨_, exec_setNoticeControl p route mask hrun he hh, replied_answer (requestTime_setNotices ..), ?_⟩
    rw [notices_answer, notices_setNotices_same]
    have fields := control_fields (s.notices p) on hold (route.setWidth 14) (mask.setWidth 14)
    refine ⟨by rw [fields], by rw [fields], by rw [fields], by rw [fields], control_queue .., fun off => ?_⟩
    rw [control_unflushed _ (.inl off), queue_controlled]
    subst off
    exact ⟨rfl, slots_emptied (s.notices p)⟩
  · have slots : ((s.notices p).controlled on hold (route.setWidth 14) (mask.setWidth 14)).slot = kept :=
      funext fun k => by rw [slot_controlled, hkept, hn, setWidth_kind]
    subst hn
    refine ⟨_, exec_setNoticeControl p route mask hrun he hh, fun q hq => ?_, fun yes free flushes => ?_,
      fun keeps => ?_⟩
    · rw [notices_answer, notices_setNotices_other _ _ hq]
    · subst yes
      rw [notices_answer, notices_setNotices_same, ← slots]
      refine control_flushed _ free (flushes.imp_right fun ⟨k, old, new⟩ => ⟨k, old, ?_⟩)
      rw [setWidth_kind]
      exact new
    · rw [notices_answer, notices_setNotices_same, control_unflushed, queue_controlled, slots]
      · exact ⟨rfl, fun _ => rfl⟩
      · refine keeps.imp_right (Or.imp_right (And.imp_right fun all k old => ?_))
        rw [setWidth_kind]
        exact all k old

end Sys2Proof.Machine
end

section
/-! PROOFS. What raises and CLEAR FAULTS, WRITE SETTING and the saves do (chapter 11). -/

namespace Sys2Proof.Machine

/-! ### Raises and CLEAR FAULTS (R172, R173, R175) -/

theorem fault_number_lt (k : FaultKind) : k.number < 13 := by cases k <;> decide

theorem fault_number_inj {j k : FaultKind} (h : j ≠ k) : j.number ≠ k.number := fun same =>
  h (by rw [← FaultKind.ofNat_ctorIdx j, ← FaultKind.ofNat_ctorIdx k]; exact congrArg FaultKind.ofNat same)

/-- A raised kind's bit alone is added to the statuses. -/
theorem status_raised (status : FaultSet) (j k : FaultKind) :
    (status ||| faultBit k).getLsbD j.number = (status.getLsbD j.number || decide (j = k)) := by
  have lt := fault_number_lt j
  unfold faultBit
  rw [BitVec.getLsbD_or, BitVec.getLsbD_shiftLeft, BitVec.getLsbD_one, decide_eq_true lt, Bool.true_and]
  congr 1
  by_cases h : j = k
  · subst h; simp
  · have ne := fault_number_inj h
    rw [decide_eq_false h]
    by_cases less : j.number < k.number
    · simp [less]
    · have : j.number - k.number ≠ 0 := by omega
      simp [this]

/-- Settles O58. -/
theorem faultsAreRaisedAndCleared : Obligations.FaultsAreRaisedAndCleared := by
  refine ⟨fun s k own released set => next_released released (takeRaise_set s ⟨k, own⟩ set),
    fun s k own plant released clear hplant => ?_, fun s p kinds hrun hp => ?_⟩
  · have step : exec (.faultRaise ⟨k, own⟩) s = .next (s.takeRaise ⟨k, own⟩) := next_released released rfl
    have raised := takeRaise_clear s ⟨k, own⟩ clear
    refine ⟨_, step, takeRaise_frame s _, takeRaise_sets s _, fun j hj => ?_, fun masked => ?_, fun unmasked => ?_⟩
    · rw [raised]
      exact (status_raised _ j k).trans (by rw [decide_eq_false hj, Bool.or_false])
    · rw [raised]
      dsimp only
      rw [masked, if_pos rfl]
      exact ⟨rfl, List.append_nil _⟩
    · rw [raised]
      dsimp only
      rw [unmasked, if_neg Bool.noConfusion]
      refine ⟨rfl, fun x held => ?_, fun none => ?_⟩
      · rw [held]; rfl
      · rw [none, hplant]
        cases own <;> rfl
  · have permitted : s.serves .clearFaults p := by
      cases p with
      | s => exact absurd rfl hp
      | g => exact ⟨hrun, rfl⟩
      | h => exact ⟨hrun, rfl⟩
    have width (j : FaultKind) : (kinds.setWidth 13 : FaultSet).getLsbD j.number = kinds.getLsbD j.number := by
      rw [BitVec.getLsbD_setWidth, decide_eq_true (fault_number_lt j), Bool.true_and]
    refine ⟨_, next_taken permitted rfl Result.noConfusion Result.noConfusion, replied_answer rfl, fun j => ?_,
      fun x held => ?_, rfl⟩
    · show (s.flu.status &&& ~~~(kinds.setWidth 13 : FaultSet)).getLsbD j.number = _
      rw [BitVec.getLsbD_and, BitVec.getLsbD_not, decide_eq_true (fault_number_lt j), Bool.true_and, width]
    · show s.flu.snapshot.filter (fun x => !(kinds.setWidth 13 : FaultSet).getLsbD x.kind.number) = _
      rw [held, Option.filter_some, width]
      cases kinds.getLsbD x.kind.number <;> rfl

/-! ### WRITE SETTING (R168) -/

/-- WRITE SETTING at an address of the table by a port that may write its group. -/
theorem exec_writeSetting {s t : State} {p : Port} {g i x : Byte} {v : Wide} {was : Nat × Nat} {r : Result}
    (hrun : s.phase = .running) (address : s.settingAt g.toNat i.toNat x.toNat = some was)
    (owns : s.ownsGroup p g.toNat = true)
    (write : s.writeItem p g.toNat i.toNat x.toNat v.toInt = (t, r)) (hm : r ≠ .malformed) (hd : r ≠ .denied) :
    exec (.writeSetting p g i x v) s = .next (t.answer p 0x11 r []) := by
  refine next_taken ⟨hrun, rfl⟩ ((if_neg ?_).trans ((if_pos owns).trans ?_)) hm hd
  · rw [address]; exact Bool.noConfusion
  · rw [write]

theorem fitResult_taken (lo hi : Nat) (v : Int) : fitResult lo hi v ≠ .malformed ∧ fitResult lo hi v ≠ .denied := by
  unfold fitResult
  split
  · exact ⟨Result.noConfusion, Result.noConfusion⟩
  · exact ⟨Result.noConfusion, Result.noConfusion⟩

/-- Settles O59. -/
theorem settingsAreWritten : Obligations.SettingsAreWritten := by
  refine ⟨fun s p g i x v hrun none => next_malformed ⟨hrun, rfl⟩ (if_pos ?_),
    fun s p g i x v was hrun address key h => next_refused ⟨hrun, rfl⟩ ((if_neg ?_).trans (if_neg ?_)),
    fun s v hrun => exec_writeSetting hrun rfl rfl rfl (fitResult_taken _ _ _).1 (fitResult_taken _ _ _).2,
    fun s v hrun => exec_writeSetting hrun rfl rfl rfl (fitResult_taken _ _ _).1 (fitResult_taken _ _ _).2,
    fun s v hrun high low => exec_writeSetting hrun rfl rfl (if_pos ?_) Result.noConfusion Result.noConfusion,
    fun s v hrun idle => exec_writeSetting hrun rfl rfl ?_ (fitResult_taken 1 240 v.toInt).1 (fitResult_taken _ _ _).2,
    fun s p v hrun key => exec_writeSetting hrun rfl key ?_ (fitResult_taken 0 1 v.toInt).1 (fitResult_taken _ _ _).2⟩
  · rw [none]; rfl
  · rw [address]; exact Bool.noConfusion
  · have apart {q : Port} (hq : p ≠ q) : ¬ (p == q || s.setupEn) = true := by
      rw [key, Bool.or_false, beq_iff_eq]; exact hq
    rcases h with ⟨rfl | rfl | rfl, other⟩ | ⟨rfl, other⟩ | rfl
    · exact apart other
    · exact apart other
    · exact apart other
    · exact apart other
    · exact Bool.eq_false_iff.mp key
  · show s.settings.supervision.adviceHigh < fit 0 1000 v.toInt
    unfold fit clampInt
    omega
  · have kept : ({ s with settings := { s.settings with slotPeriod := fit 1 240 v.toInt } } : State).slotDue ≠ true := by
      unfold State.slotDue
      rw [idle]
      exact Bool.noConfusion
    exact congrArg (·, fitResult 1 240 v.toInt) (if_neg kept)
  · have coded : decide (fit 0 1 v.toInt = 1) = decide (0 < v.toInt) := by
      refine decide_eq_decide.mpr ?_
      unfold fit clampInt
      omega
    exact congrArg (fun y => (s.setDevice { s.settings.device with threshold295 := y }, fitResult 0 1 v.toInt)) coded

/-! ### Saves (R170, R171) -/

/-- Without a mark PENDING, or with a write or a save on, no trip-area write starts (R146). -/
theorem startAreaWrite_not {s : State} (h : s.tsv.mark ≠ .pending ∨ s.sst.areaWrite ≠ none) :
    s.startAreaWrite = s := by
  refine if_neg ?_
  unfold State.areaWriteDue
  rcases h with unmarked | writing
  · rw [decide_eq_false unmarked]; exact Bool.noConfusion
  · obtain ⟨w, hw⟩ := Option.ne_none_iff_exists'.mp writing
    rw [hw, Option.isNone_some, Bool.and_false]
    exact Bool.noConfusion

/-- SAVE SETTINGS of port G in SAVE IDLE, with no trip-area write to start (R170). -/
theorem exec_saveSettings_idle {s t : State} (hrun : s.phase = .running) (idle : s.sst.save = .idle)
    (h : s.tsv.mark ≠ .pending ∨ s.sst.areaWrite ≠ none)
    (ht : (if s.sst.areaWrite.isSome then { s with sst := { s.sst with save := .waiting } } else s.runSave) = t) :
    exec (.saveSettings .g) s = .next (t.answer .g 0x13 .done []) := by
  refine next_taken ⟨hrun, rfl⟩ ?_ Result.noConfusion Result.noConfusion
  rw [idle]
  dsimp only
  rw [startAreaWrite_not h, ht]
  rfl

/-- Settles O60. -/
theorem savesAreMade : Obligations.SavesAreMade := by
  refine ⟨fun s hrun idle mark write => exec_saveSettings_idle hrun idle (.inl ?_) (if_neg ?_),
    fun s w hrun idle write => exec_saveSettings_idle hrun idle (.inr ?_) (if_pos ?_),
    fun s hrun busy => next_taken ⟨hrun, rfl⟩ ?_ Result.noConfusion Result.noConfusion,
    fun s hrun waiting write => next_running hrun (if_pos ?_),
    fun s start d hrun running mark => ⟨next_running hrun ?_, next_running hrun ?_⟩,
    fun s => ⟨rfl, rfl, rfl⟩⟩
  · rw [mark]; exact WriteMark.noConfusion
  · rw [write]; exact Bool.noConfusion
  · rw [write]; exact Option.some_ne_none w
  · rw [write]; rfl
  · split
    · next idle => exact absurd idle busy
    · rfl
  · unfold State.saveRunDue
    rw [waiting, write]
    rfl
  · rw [running]
    dsimp only
    rw [startAreaWrite_not (.inl (by show s.tsv.mark ≠ .pending; rw [mark]; exact WriteMark.noConfusion))]
    rfl
  · rw [running]
    dsimp only
    rw [startAreaWrite_not (.inl (by show s.tsv.mark ≠ .pending; rw [mark]; exact WriteMark.noConfusion))]
    exact congrArg (fun q => ({ s with sst := { s.sst with save := .idle }, posted := q } : State))
      (List.append_assoc s.posted [_] [_])

end Sys2Proof.Machine
end
